-- ==== Sys2Proof/Word.lean ====
section
/-! DEFINITION. The words of the link and of the Timebase. -/

namespace Sys2Proof

/-- One byte of the Limit Link (R166). -/
abbrev Byte := BitVec 8

/-- A two-byte number of the link (R177): bounds, leases, settle times, holds. -/
abbrev Half := BitVec 16

/-- A value of the Timebase count of milliseconds, and so a due count or a capture (R52, R53). -/
abbrev Count := BitVec 32

end Sys2Proof
end

