-- ==== Sys2Proof/Config.lean ====
section
/-! DEFINITION. What the manual leaves open: the free values. None has a body, so nothing can be proved of a value of one.
Each is applied to `State.fresh`, the model's own counter (log 12). -/

namespace Sys2Proof.Config

/-- The 10-bit code that a conversion raised by the tick yields: it comes from the analog input, outside the part (R101; log 6). -/
opaque converterCode : Nat → BitVec 10

/-- Whether a command in execution completes at this microsecond: "the part may complete a command at any moment in that span" (R169; log 5). -/
opaque completesNow : Nat → Bool

/-- Which of the events that fall due at one moment is taken next: the manual gives outcomes for either order and fixes none
(R53's note, R65, R80, R116, R144, R158; log 2). -/
opaque orderPick : Nat → Nat

/-- Whether, within one conversion completion, the channel's trip source is judged after the evaluations (R101: "They need no order
among themselves"; log 7). -/
opaque evaluationsFirst : Nat → Bool

/-- Whether a reader of the targets that stands at the moment of a CH0 completion, by number (outputs 0 to 3, and 4 the READ GOVERNOR in
execution), is taken within that completion (R125: "Between the two, a reader sees the target with one step made and not the other";
log 19). -/
opaque readsWithin : Nat → Nat → Bool

/-- The microseconds after the rising of SEL within which a taken command completes (R169). -/
def maxExecutionMicros : Nat := 40

/-- The part code READ PROFILE returns (R176). -/
def partCode : Half := 0x0620

/-- The revision of the part the manual describes (R176). -/
def revision : Byte := 1

end Sys2Proof.Config
end

