-- ==== Sys2Proof/Syntax.lean ====
section
/-! DEFINITION. The names of the manual (requesters, postures, subjects, channels, sources, outputs), the commands of the Limit Link with
their fields as carried, and `Instr`: one constructor per row of spec/opcode_table.json. -/

namespace Sys2Proof

/-- A party named by a command frame (00_scope.md, Requesters); 0 is privileged. -/
abbrev Requester := Fin 8

/-- A bounded quantity (R4): 0 PKG_SHORT, 1 PKG_LONG, 2 GFX, 3 INPUT, 4 DISCHARGE, 5 CHARGE, 6 SKIN_BASE, 7 SKIN_DECK, 8 CELL, 9 FAN_CAP. -/
abbrev Subject := Fin 10

/-- Subject 9, the one that is not measured (R96). -/
def fanCapSubject : Subject := 9

/-- A measured subject, 0-8 (R121). -/
abbrev Measured := Fin 9

/-- A sense channel CH0-CH8. -/
abbrev Channel := Fin 9

/-- A trip source by its number: 0-8 CH0-CH8, 9 OVERTEMP, 10 SAT (Table 10-1). -/
abbrev Source := Fin 11

/-- A slot of the Limit Table (R1). -/
abbrev SlotIx := Fin 48

/-- A level 0-15 (00_scope.md, Numbers): pressures, targets, applied levels, route offsets, the fan cap. -/
abbrev Level := Fin 16

/-- An actuator and the output it drives, by code: 0 THR_CPU, 1 THR_GFX, 2 CHG / CHG_SET, 3 FAN / FAN_PWM (R137, Table 10-1). -/
abbrev OutputIx := Fin 4

/-- Actuator FAN, the one the fan cap limits (R129). -/
def fanOutput : OutputIx := 3

/-- CHG_SET, whose pulse mapping is reversed (R139). -/
def chargeOutput : OutputIx := 2

/-- Where the computer is (R73). -/
inductive Posture
  | desk | lap | bag
  deriving DecidableEq, Repr

/-- A digital input of the Posture Monitor that enters the raw posture (R70, R72). -/
inductive PostureInput
  | lid | dock | contact
  deriving DecidableEq, Repr

/-- The levels the part samples when full reset ends (R70, R164, R166, R178): `true` is high, open, present or asserted;
`selLow` says that SEL is low. -/
structure PinLevels where
  prof1 : Bool
  prof0 : Bool
  lidOpen : Bool
  dockPresent : Bool
  contact : Bool
  motion : Bool
  adapterPresent : Bool
  overtemp : Bool
  stopAck : Bool
  selLow : Bool
  deriving DecidableEq, Repr

/-- The status of a response (Table 10-5). -/
inductive Status
  | ok | staged | notReady | empty | notFound | duplicate | full | quota | stale | retiring | denied | range
  | active | tripBusy | tripOff | check | framing | malformed | unknown
  deriving DecidableEq, Repr

/-- The three bytes of a key (Table 10-1), as carried. -/
structure KeyFields where
  owner : Byte
  subject : Byte
  tag : Byte
  deriving DecidableEq, Repr

/-- The two bytes of an expected generation (Table 10-1), as carried. -/
structure ExpectFields where
  flag : Byte
  generation : Byte
  deriving DecidableEq, Repr

/-- The fields of PLACE (R30), as carried. -/
structure PlaceFields where
  subject : Byte
  tag : Byte
  bound : Half
  mask : Byte
  cls : Byte
  leaseFlag : Byte
  lease : Half
  deriving DecidableEq, Repr

/-- The fields of CHANGE (R33), as carried. -/
structure ChangeFields where
  key : KeyFields
  bound : Half
  mask : Byte
  expect : ExpectFields
  deriving DecidableEq, Repr

/-- The fields of RENEW (R39), as carried. -/
structure RenewFields where
  key : KeyFields
  lease : Half
  expect : ExpectFields
  deriving DecidableEq, Repr

/-- The fields of RETIRE (R41), as carried. -/
structure RetireFields where
  key : KeyFields
  expect : ExpectFields
  deriving DecidableEq, Repr

/-- The fields of SET GOVERN (R131), as carried: the saturation time in units of 16 ms. -/
structure GovernFields where
  subject : Byte
  hysteresis : Half
  riseHold : Half
  fallHold : Half
  saturationTime : Byte
  deriving DecidableEq, Repr

/-- The fields of SET OUTPUT (R145), as carried: the period in units of 16 us. -/
structure OutputFields where
  output : Byte
  period : Byte
  cutoff : Byte
  mask : Half
  restart : Byte
  deriving DecidableEq, Repr

/-- A command of Table 10-2 with its payload fields as carried. Checks of the fields (RANGE) belong to the owning block and are
made at the completion (R168). SET TRIP holds its 128 bits of Table 10-3, bit 0 of the table the most significant. -/
inductive Command
  | place (f : PlaceFields)
  | change (f : ChangeFields)
  | renew (f : RenewFields)
  | retire (f : RetireFields)
  | sweep (owner subject : Byte)
  | lookup (key : KeyFields)
  | readSlot (slot : Byte)
  | list (start : Byte)
  | readResolved (subject : Byte)
  | readPosture
  | readMeasure
  | readGovernor
  | readTrip
  | readNotices
  | setNoticeEnable (kinds : Byte)
  | clearNotices (kinds : Byte)
  | readProfile
  | readSettings (block index : Byte)
  | resume
  | softReset
  | setScan (period : Byte)
  | setSense (subject gain shift : Byte)
  | setCommit (subject exponent : Byte)
  | setGovern (f : GovernFields)
  | setRoute (subject actuator entry : Byte)
  | setOutput (f : OutputFields)
  | setTrip (packed : BitVec 128)
  | setPosture (flags : Byte) (strict loose : Half)
  deriving DecidableEq, Repr

/-- The rows of spec/opcode_table.json. The 28 commands of the link stand for their completions: the fields are those of the taken
command, which the Link Port holds from the frame that carried it (R168, R169; log 4). A frame carries the bits clocked on SDI between
the falling and the rising of SEL (R166). An edge carries the level the input takes; a conversion the code it yields (log 6). -/
inductive Instr
  | fullReset (pins : PinLevels)
  | commandFrame (sdi : List Bool)
  | frameDuringExecution (sdi : List Bool)
  | fetchFrame (sdi : List Bool)
  | place
  | change
  | renew
  | retire
  | sweep
  | lookup
  | readSlot
  | list
  | readResolved
  | readPosture
  | readMeasure
  | readGovernor
  | readTrip
  | readNotices
  | setNoticeEnable
  | clearNotices
  | readProfile
  | readSettings
  | resume
  | softReset
  | setScan
  | setSense
  | setCommit
  | setGovern
  | setRoute
  | setOutput
  | setTrip
  | setPosture
  | commitTimerExpiry (subject : Subject)
  | leaseTick
  | postureInputEdge (input : PostureInput) (level : Bool)
  | motionEdge (asserted : Bool)
  | adpPresEdge (present : Bool)
  | settleTimerExpiry
  | scanTimerExpiry
  | startStepEnd
  | gapEnd
  | conversionCompletion (code : BitVec 10)
  | spotCompletion (code : BitVec 10)
  | overtempEdge (asserted : Bool)
  | stopAckEdge (asserted : Bool)
  | stopTimerExpiry
  | periodEnd (output : OutputIx)
  deriving DecidableEq, Repr

end Sys2Proof
end

