-- ==== Sys2Proof/Decode.lean ====
section
/-! DEFINITION. The frames of the Limit Link (R166, R168, Table 10-2): bits to bytes, the header, the command codes, the fields of each
payload, the checks of a COMMAND frame, and the frame that carries a command. `decodeTableWord` answers none: no row of the table has bits. -/

namespace Sys2Proof

/-- The command that a word spells by the table's bits: no row of spec/opcode_table.json gives any. -/
def decodeTableWord (_nbits _w : Nat) : Option Instr := none

/-! ### Bytes -/

/-- A number from bits, the first the most significant. -/
def natOfBitsMsb (bits : List Bool) : Nat :=
  bits.foldl (fun n b => 2 * n + b.toNat) 0

/-- The whole bytes of a frame: each most significant bit first, the bits of an incomplete last byte discarded (R166). -/
def wholeBytes : List Bool → List Byte
  | b7 :: b6 :: b5 :: b4 :: b3 :: b2 :: b1 :: b0 :: rest =>
    BitVec.ofNat 8 (natOfBitsMsb [b7, b6, b5, b4, b3, b2, b1, b0]) :: wholeBytes rest
  | _ => []

/-- The eight bits of a byte, most significant first (R166). -/
def bitsOfByte (b : Byte) : List Bool :=
  [b.getMsbD 0, b.getMsbD 1, b.getMsbD 2, b.getMsbD 3, b.getMsbD 4, b.getMsbD 5, b.getMsbD 6, b.getMsbD 7]

/-- The bits that carry these bytes. -/
def bitsOfBytes (bytes : List Byte) : List Bool := bytes.flatMap bitsOfByte

/-- The 8-bit sum of bytes (R166). -/
def byteSum (bytes : List Byte) : Byte := bytes.foldr (fun b n => b + n) 0

/-- Bytes followed by the check byte that makes their 8-bit sum 0 (R166, Table 10-4). -/
def withCheck (bytes : List Byte) : List Byte := bytes ++ [-(byteSum bytes)]

/-- A two-byte number, most significant byte first (R177). -/
def halfOfBytes (hi lo : Byte) : Half := hi ++ lo

/-- The two bytes of a number, most significant first (R177). -/
def bytesOfHalf (w : Half) : List Byte := [w.extractLsb' 8 8, w.extractLsb' 0 8]

/-- The four bytes of a count, most significant first (R177). -/
def bytesOfCount (w : Count) : List Byte :=
  [w.extractLsb' 24 8, w.extractLsb' 16 8, w.extractLsb' 8 8, w.extractLsb' 0 8]

/-! ### Headers -/

/-- The type of a frame by its header (R166). -/
inductive FrameType
  | command | fetch | other
  deriving DecidableEq, Repr

/-- The type a header names: 0xA0-0xA7 COMMAND, 0x50-0x57 FETCH, any other value none (R166). -/
def frameType (header : Byte) : FrameType :=
  if 0xA0 ≤ header.toNat ∧ header.toNat ≤ 0xA7 then .command
  else if 0x50 ≤ header.toNat ∧ header.toNat ≤ 0x57 then .fetch
  else .other

/-- The requester of a header: its low three bits (R166). -/
def headerRequester (header : Byte) : Requester := Fin.ofNat 8 header.toNat

/-- The header of a COMMAND frame of a requester (R166). -/
def commandHeader (r : Requester) : Byte := BitVec.ofNat 8 (0xA0 + r.val)

/-- The header of a FETCH frame of a requester (R166). -/
def fetchHeader (r : Requester) : Byte := BitVec.ofNat 8 (0x50 + r.val)

/-! ### Command codes -/

/-- The commands of Table 10-2, without their fields. -/
inductive Code
  | place | change | renew | retire | sweep | lookup | readSlot | list | readResolved | readPosture | readMeasure | readGovernor
  | readTrip | readNotices | setNoticeEnable | clearNotices | readProfile | readSettings | resume | softReset | setScan | setSense
  | setCommit | setGovern | setRoute | setOutput | setTrip | setPosture
  deriving DecidableEq, Repr

/-- The code byte of Table 10-2. -/
def codeByte : Code → Byte
  | .place => 0x01 | .change => 0x02 | .renew => 0x03 | .retire => 0x04 | .sweep => 0x05 | .lookup => 0x06 | .readSlot => 0x07
  | .list => 0x08 | .readResolved => 0x09 | .readPosture => 0x0A | .readMeasure => 0x0B | .readGovernor => 0x0C | .readTrip => 0x0D
  | .readNotices => 0x0E | .setNoticeEnable => 0x0F | .clearNotices => 0x10 | .readProfile => 0x11 | .readSettings => 0x12
  | .resume => 0x20 | .softReset => 0x21 | .setScan => 0x22 | .setSense => 0x23 | .setCommit => 0x24 | .setGovern => 0x25
  | .setRoute => 0x26 | .setOutput => 0x27 | .setTrip => 0x28 | .setPosture => 0x29

/-- The payload length n of Table 10-2. -/
def payloadLength : Code → Nat
  | .place => 9 | .change => 8 | .renew => 7 | .retire => 5 | .sweep => 2 | .lookup => 3 | .readSlot => 1 | .list => 1
  | .readResolved => 1 | .readPosture => 0 | .readMeasure => 0 | .readGovernor => 0 | .readTrip => 0 | .readNotices => 0
  | .setNoticeEnable => 1 | .clearNotices => 1 | .readProfile => 0 | .readSettings => 2 | .resume => 0 | .softReset => 0
  | .setScan => 1 | .setSense => 3 | .setCommit => 2 | .setGovern => 8 | .setRoute => 3 | .setOutput => 6 | .setTrip => 16
  | .setPosture => 5

/-- The commands marked P in Table 10-2. -/
def privileged : Code → Bool
  | .resume | .softReset | .setScan | .setSense | .setCommit | .setGovern | .setRoute | .setOutput | .setTrip | .setPosture => true
  | .place | .change | .renew | .retire | .sweep | .lookup | .readSlot | .list | .readResolved | .readPosture | .readMeasure
  | .readGovernor | .readTrip | .readNotices | .setNoticeEnable | .clearNotices | .readProfile | .readSettings => false

/-- Every code of Table 10-2. -/
def allCodes : List Code :=
  [.place, .change, .renew, .retire, .sweep, .lookup, .readSlot, .list, .readResolved, .readPosture, .readMeasure, .readGovernor,
   .readTrip, .readNotices, .setNoticeEnable, .clearNotices, .readProfile, .readSettings, .resume, .softReset, .setScan, .setSense,
   .setCommit, .setGovern, .setRoute, .setOutput, .setTrip, .setPosture]

/-- The code a byte stands for, if any. -/
def codeOfByte (b : Byte) : Option Code := allCodes.find? fun c => codeByte c == b

/-- The code of a command. -/
def codeOf : Command → Code
  | .place _ => .place | .change _ => .change | .renew _ => .renew | .retire _ => .retire | .sweep _ _ => .sweep
  | .lookup _ => .lookup | .readSlot _ => .readSlot | .list _ => .list | .readResolved _ => .readResolved
  | .readPosture => .readPosture | .readMeasure => .readMeasure | .readGovernor => .readGovernor | .readTrip => .readTrip
  | .readNotices => .readNotices | .setNoticeEnable _ => .setNoticeEnable | .clearNotices _ => .clearNotices
  | .readProfile => .readProfile | .readSettings _ _ => .readSettings | .resume => .resume | .softReset => .softReset
  | .setScan _ => .setScan | .setSense _ _ _ => .setSense | .setCommit _ _ => .setCommit | .setGovern _ => .setGovern
  | .setRoute _ _ _ => .setRoute | .setOutput _ => .setOutput | .setTrip _ => .setTrip | .setPosture _ _ _ => .setPosture

/-! ### Payloads -/

/-- The 128 bits of a SET TRIP payload, from the most significant bit of the first byte (Table 10-3). -/
def packTrip (bytes : List Byte) : BitVec 128 :=
  bytes.foldl (fun w b => (w <<< 8) ||| b.setWidth 128) 0

/-- The sixteen bytes of a SET TRIP payload (Table 10-3). -/
def unpackTrip (w : BitVec 128) : List Byte :=
  (List.range 16).map fun i => w.extractLsb' (120 - 8 * i) 8

/-- The fields of a payload of the right length (Table 10-2). -/
def parsePayload : Code → List Byte → Option Command
  | .place, [s, t, b1, b0, m, c, lf, l1, l0] => some (.place ⟨s, t, halfOfBytes b1 b0, m, c, lf, halfOfBytes l1 l0⟩)
  | .change, [o, s, t, b1, b0, m, gf, g] => some (.change ⟨⟨o, s, t⟩, halfOfBytes b1 b0, m, ⟨gf, g⟩⟩)
  | .renew, [o, s, t, l1, l0, gf, g] => some (.renew ⟨⟨o, s, t⟩, halfOfBytes l1 l0, ⟨gf, g⟩⟩)
  | .retire, [o, s, t, gf, g] => some (.retire ⟨⟨o, s, t⟩, ⟨gf, g⟩⟩)
  | .sweep, [o, s] => some (.sweep o s)
  | .lookup, [o, s, t] => some (.lookup ⟨o, s, t⟩)
  | .readSlot, [k] => some (.readSlot k)
  | .list, [k] => some (.list k)
  | .readResolved, [s] => some (.readResolved s)
  | .readPosture, [] => some .readPosture
  | .readMeasure, [] => some .readMeasure
  | .readGovernor, [] => some .readGovernor
  | .readTrip, [] => some .readTrip
  | .readNotices, [] => some .readNotices
  | .setNoticeEnable, [k] => some (.setNoticeEnable k)
  | .clearNotices, [k] => some (.clearNotices k)
  | .readProfile, [] => some .readProfile
  | .readSettings, [b, i] => some (.readSettings b i)
  | .resume, [] => some .resume
  | .softReset, [] => some .softReset
  | .setScan, [p] => some (.setScan p)
  | .setSense, [s, g, k] => some (.setSense s g k)
  | .setCommit, [s, n] => some (.setCommit s n)
  | .setGovern, [s, h1, h0, r1, r0, f1, f0, t] =>
    some (.setGovern ⟨s, halfOfBytes h1 h0, halfOfBytes r1 r0, halfOfBytes f1 f0, t⟩)
  | .setRoute, [s, a, e] => some (.setRoute s a e)
  | .setOutput, [o, p, c, m1, m0, r] => some (.setOutput ⟨o, p, c, halfOfBytes m1 m0, r⟩)
  | .setTrip, bytes => if bytes.length = 16 then some (.setTrip (packTrip bytes)) else none
  | .setPosture, [f, s1, s0, l1, l0] => some (.setPosture f (halfOfBytes s1 s0) (halfOfBytes l1 l0))
  | _, _ => none

/-- The payload bytes of a command (Table 10-2). -/
def payloadBytes : Command → List Byte
  | .place f => [f.subject, f.tag] ++ bytesOfHalf f.bound ++ [f.mask, f.cls, f.leaseFlag] ++ bytesOfHalf f.lease
  | .change f =>
    [f.key.owner, f.key.subject, f.key.tag] ++ bytesOfHalf f.bound ++ [f.mask, f.expect.flag, f.expect.generation]
  | .renew f => [f.key.owner, f.key.subject, f.key.tag] ++ bytesOfHalf f.lease ++ [f.expect.flag, f.expect.generation]
  | .retire f => [f.key.owner, f.key.subject, f.key.tag, f.expect.flag, f.expect.generation]
  | .sweep o s => [o, s]
  | .lookup k => [k.owner, k.subject, k.tag]
  | .readSlot k => [k]
  | .list k => [k]
  | .readResolved s => [s]
  | .setNoticeEnable k => [k]
  | .clearNotices k => [k]
  | .readSettings b i => [b, i]
  | .setScan p => [p]
  | .setSense s g k => [s, g, k]
  | .setCommit s n => [s, n]
  | .setGovern f =>
    [f.subject] ++ bytesOfHalf f.hysteresis ++ bytesOfHalf f.riseHold ++ bytesOfHalf f.fallHold ++ [f.saturationTime]
  | .setRoute s a e => [s, a, e]
  | .setOutput f => [f.output, f.period, f.cutoff] ++ bytesOfHalf f.mask ++ [f.restart]
  | .setTrip w => unpackTrip w
  | .setPosture f s l => [f] ++ bytesOfHalf s ++ bytesOfHalf l
  | .readPosture | .readMeasure | .readGovernor | .readTrip | .readNotices | .readProfile | .resume | .softReset => []

/-! ### Frames -/

/-- What the Link Port makes of a COMMAND frame, or of one whose header is no frame type, while IDLE (R168): an error response with a
status for the requester of the header, or a taken command. -/
inductive Verdict
  | refuse (requester : Requester) (status : Status)
  | take (requester : Requester) (command : Command)
  deriving DecidableEq, Repr

/-- The checks of R168 after FRAMING, in order: CHECK, UNKNOWN, MALFORMED, DENIED. -/
def checkCommand (r : Requester) (header code length : Byte) (tail : List Byte) : Verdict :=
  if byteSum (header :: code :: length :: tail) ≠ 0 then .refuse r .check
  else
    match codeOfByte code with
    | none => .refuse r .unknown
    | some c =>
      if length.toNat ≠ payloadLength c then .refuse r .malformed
      else if privileged c ∧ r ≠ 0 then .refuse r .denied
      else
        match parsePayload c (tail.take length.toNat) with
        | some cmd => .take r cmd
        | none => .refuse r .malformed

/-- The checks of R168 on the whole bytes of a frame, its header first. FRAMING fails when the header is not a COMMAND header, the frame
is shorter than 4 bytes, or its byte count differs from n + 4. -/
def judgeFrame (header : Byte) (rest : List Byte) : Verdict :=
  let r := headerRequester header
  if frameType header ≠ .command then .refuse r .framing
  else
    match rest with
    | code :: length :: tail =>
      if tail.length ≠ length.toNat + 1 then .refuse r .framing else checkCommand r header code length tail
    | _ => .refuse r .framing

/-- The bytes of the COMMAND frame that carries a command from a requester (R166, Table 10-2). -/
def commandFrameBytes (r : Requester) (c : Command) : List Byte :=
  withCheck ([commandHeader r, codeByte (codeOf c), BitVec.ofNat 8 (payloadLength (codeOf c))] ++ payloadBytes c)

end Sys2Proof
end

