-- ==== Sys2Proof/Machine/Blocks.lean ====
section
/-! DEFINITION. The state each block of the part owns, as plain data (chapters 1 to 11). -/

namespace Sys2Proof.Machine

/-! ### Timebase (chapter 3) -/

/-- A value of the Timebase: the count of milliseconds and the microsecond within it (R52); also a due moment. -/
structure Moment where
  count : Count
  micro : Fin 1000
  deriving DecidableEq, Repr

/-! ### Limit Table (chapters 1 to 3) -/

/-- A set of postures (R8): bit 0 DESK, bit 1 LAP, bit 2 BAG (Table 10-1). -/
abbrev Mask := BitVec 3

/-- The state of a slot that holds a record (R2); a FREE slot holds none. -/
inductive RecordState
  | live | retiring
  deriving DecidableEq, Repr

/-- The class of a record (R6). -/
inductive RecordClass
  | ordinary | anchored
  deriving DecidableEq, Repr

/-- A limit record (Table 1-1). Its slot is its place in the table and its key is formed from owner, subject and tag. -/
structure Record where
  state : RecordState
  owner : Requester
  subject : Subject
  tag : Byte
  cls : RecordClass
  bound : Half
  mask : Mask
  pendingBound : Option Half
  pendingMask : Option Mask
  lease : Option Nat
  generation : Byte
  deriving DecidableEq, Repr

/-- The 48 slots, each FREE or holding one record (R1). -/
abbrev Table := Vector (Option Record) 48

/-- A record's key (R5). -/
structure Key where
  owner : Requester
  subject : Subject
  tag : Byte
  deriving DecidableEq, Repr

/-- A subject's commit timer (R54). -/
structure CommitTimer where
  exponent : Fin 8
  staged : Option (Fin 8)
  nextExpiry : Count
  deriving DecidableEq, Repr

/-! ### Posture Monitor (chapter 4) -/

/-- The direction of a settle (R73). -/
inductive SettleKind
  | strict | loose
  deriving DecidableEq, Repr

/-- A settle in progress (R73); `due` is absent while the timer is held. -/
structure Settle where
  candidate : Posture
  kind : SettleKind
  duration : Half
  due : Option Count
  deriving DecidableEq, Repr

/-- The Posture Monitor (R70, R71, R73, R77, R83). Levels and captures stand in the order LID, DOCK, CONTACT, MOTION, ADP_PRES;
`settle` is absent in STEADY. -/
structure PostureMonitor where
  levels : Vector Bool 5
  captures : Vector (Option Count) 5
  current : Posture
  settle : Option Settle
  lastChange : Option (Count × Posture)
  strictTime : Half
  looseTime : Half
  deriving DecidableEq, Repr

/-! ### Resolver (chapter 5) -/

/-- A resolved entry (Table 5-1); an absent limit is UNBOUNDED. -/
structure Entry where
  limit : Option Half
  winner : Option SlotIx
  count : Nat
  deriving DecidableEq, Repr

/-! ### Measurement Unit (chapter 6) -/

/-- A scan period (R103). -/
inductive ScanPeriod
  | us500 | us1000 | us2000 | us4000
  deriving DecidableEq, Repr

/-- The scan timer (R103). -/
structure ScanTimer where
  period : ScanPeriod
  staged : Option ScanPeriod
  next : Moment
  deriving DecidableEq, Repr

/-- What follows a spot check (Table 6-2). -/
inductive Resume
  | starting (left : Nat)
  | converting (channel : Channel)
  | gap (next : Channel) (left : Nat)
  deriving DecidableEq, Repr

/-- The scan sequencer (Table 6-2); times left in microseconds. -/
inductive Sequencer
  | idle
  | starting (left : Nat)
  | converting (channel : Channel) (due : Moment)
  | gap (next : Channel) (left : Nat)
  | spot (due : Moment) (resume : Option Resume)
  deriving DecidableEq, Repr

/-- What is taken one after another within a CH0 completion into which readers of the targets fall (R101, R125; log 19): the filter update of a
subject with its evaluation, the judgement of the channel's trip source, an output's period end, a READ GOVERNOR response. -/
inductive CompletionPart
  | evaluation (subject : Measured)
  | judgement
  | periodEnd (output : OutputIx)
  | readGovernor
  deriving DecidableEq, Repr

/-- The Measurement Unit (R101, R102, R103, R108, R109); filters in units of 1/256. -/
structure Measurement where
  scan : ScanTimer
  sequencer : Sequencer
  latest : Vector (Option (BitVec 10)) 9
  filters : Vector (Option Nat) 9
  gains : Vector Byte 9
  shifts : Vector (Fin 13) 9
  deriving DecidableEq, Repr

/-! ### Governor (chapter 7) -/

/-- The Governor's state and settings of a measured subject (Tables 7-1 and 7-2); the saturation time in units of 16 ms. -/
structure Governed where
  pressure : Level
  lastStep : Option Count
  runStart : Option Count
  saturated : Bool
  hysteresis : Half
  riseHold : Half
  fallHold : Half
  saturationTime : Byte
  deriving DecidableEq, Repr

/-- The Governor (R121, R128, R129); an absent route is NONE. -/
structure Governor where
  subjects : Vector Governed 9
  routes : Vector (Vector (Option Level) 4) 9
  targets : Vector Level 4
  deriving DecidableEq, Repr

/-! ### Output Stage (chapter 8) -/

/-- A set of trip sources (Table 10-1): bits 0-8 CH0-CH8, bit 9 OVERTEMP, bit 10 SAT. -/
abbrev SourceSet := BitVec 11

/-- The state of an output (Table 8-1). -/
inductive OutputState
  | tracking | forced | releasing
  deriving DecidableEq, Repr

/-- A cutoff level (R142). -/
inductive Cutoff
  | zero | full
  deriving DecidableEq, Repr

/-- A restart mode (R141). -/
inductive Restart
  | auto | manual
  deriving DecidableEq, Repr

/-- An output (R137); periods in units of 16 us. -/
structure Output where
  period : Byte
  staged : Option Byte
  nextEnd : Moment
  applied : Level
  state : OutputState
  cutoff : Cutoff
  mask : SourceSet
  restart : Restart
  deriving DecidableEq, Repr

/-! ### Trip Unit (chapter 9) -/

/-- The trip state (Table 9-1). -/
inductive TripState
  | armed | tripped | stopping | stopped | off
  deriving DecidableEq, Repr

/-- The Trip Unit (R150, R152, R155); an absent stop timer is idle. -/
structure TripUnit where
  state : TripState
  active : SourceSet
  latched : SourceSet
  capture : Option (Count × Source)
  stopTimer : Option Count
  overtemp : Bool
  stopAck : Bool
  saturated : BitVec 9
  enable : SourceSet
  stopClass : SourceSet
  levels : Vector (BitVec 10) 9
  stopTimeout : Byte
  deriving DecidableEq, Repr

/-! ### Link Port (chapter 10) -/

/-- A set of notice kinds (Table 10-1): bit 0 EXPIRED, 1 OVERRIDDEN, 2 COMMITTED, 3 POSTURE, 4 TRIP, 5 RESET. -/
abbrev NoticeSet := BitVec 6

/-- A notice handed to the Link Port (R172), with its slot where the kind carries one. -/
inductive Notice
  | expired (slot : SlotIx)
  | overridden (slot : SlotIx)
  | committed (slot : SlotIx)
  | posture
  | trip
  | reset
  deriving DecidableEq, Repr

/-- A requester's notice state (R172). -/
structure NoticeState where
  pending : NoticeSet
  reported : NoticeSet
  enable : NoticeSet
  lastExpired : Option SlotIx
  lastOverridden : Option SlotIx
  lastCommitted : Option SlotIx
  deriving DecidableEq, Repr

/-- A taken command in execution (R167, R169); `age` is the microseconds since the rising of SEL that began it. -/
structure Execution where
  requester : Requester
  command : Command
  dropped : Bool
  age : Nat
  deriving DecidableEq, Repr

/-- A response (R169, Table 10-4). -/
structure Response where
  status : Status
  priorUnread : Bool
  dropped : Bool
  requester : Requester
  notices : NoticeSet
  payload : List Byte
  deriving DecidableEq, Repr

/-- The response in the slot with its fetched flag (R167). -/
structure HeldResponse where
  response : Response
  fetched : Bool
  deriving DecidableEq, Repr

/-- The Link Port (R166, R167, R172). `execution` is absent while IDLE and `slot` while EMPTY; `sdo` is the bits shifted out in the last
frame (log 9); `voidFrame` says that the frame in progress when full reset ended makes no frame (R166; log 10). -/
structure LinkPort where
  execution : Option Execution
  slot : Option HeldResponse
  notices : Vector NoticeState 8
  sdo : List Bool
  voidFrame : Bool
  deriving DecidableEq, Repr

/-- What a block answers to a command: the status and the payload of its response (R169). -/
structure Reply where
  status : Status
  payload : List Byte
  deriving DecidableEq, Repr

end Sys2Proof.Machine
end

