-- ==== Sys2Proof/Machine/Resolve.lean ====
section
/-! DEFINITION. Postures, the raw posture, when a record applies, and the resolved entry of a subject (R16, R72, R73, R89, R96). -/

namespace Sys2Proof.Machine

/-- The number of a posture on the link and its place in the order of strictness DESK < LAP < BAG (R73, Table 10-1). -/
def postureIndex : Posture → Nat
  | .desk => 0 | .lap => 1 | .bag => 2

/-- Whether the first posture is stricter than the second (R73). -/
def stricter (p q : Posture) : Bool := postureIndex q < postureIndex p

/-- The raw posture of the levels of LID, DOCK and CONTACT (Table 4-2). -/
def rawPostureOf (lidOpen dockPresent contact : Bool) : Posture :=
  match lidOpen, dockPresent, contact with
  | false, false, _ => .bag
  | false, true, _ => .desk
  | true, false, true => .lap
  | true, false, false => .desk
  | true, true, _ => .desk

/-- The raw posture of the five kept levels (R72): MOTION and ADP_PRES have no part in it. -/
def rawPosture (levels : Vector Bool 5) : Posture := rawPostureOf levels[0] levels[1] levels[2]

/-- Whether a posture is in a mask (R8). -/
def inMask (m : Mask) (p : Posture) : Bool := m.getLsbD (postureIndex p)

/-- Whether a record applies in a posture (R16): its pending parts and its state have no part in it. -/
def applies (p : Posture) (r : Record) : Bool := inMask r.mask p

/-- The slots of the records of a subject that apply, in ascending order, with their bounds (R89). -/
def applying (t : Table) (p : Posture) (sub : Subject) : List (SlotIx × Half) :=
  (List.finRange 48).filterMap fun i =>
    match t[i] with
    | some r => if r.subject = sub ∧ applies p r then some (i, r.bound) else none
    | none => none

/-- The stricter of the best so far and the next candidate; at equal bounds the earlier, lower slot stays (R90). -/
def better (best : Option (SlotIx × Half)) (c : SlotIx × Half) : Option (SlotIx × Half) :=
  match best with
  | none => some c
  | some b => if c.2.toNat < b.2.toNat then some c else some b

/-- The resolved entry of a subject (R89): the smallest bound that applies, the lowest slot holding it, and how many apply. -/
def computeEntry (t : Table) (p : Posture) (sub : Subject) : Entry :=
  let candidates := applying t p sub
  let best := candidates.foldl better none
  { limit := best.map (·.2), winner := best.map (·.1), count := candidates.length }

/-- The fan cap of the FAN_CAP entry (R96). A bound above 15 is no bound of FAN_CAP (R4); the model reads one as 15 (log 17). -/
def fanCapOf (e : Entry) : Level :=
  match e.limit with
  | none => 15
  | some b => if b.toNat ≤ 15 then Fin.ofNat 16 b.toNat else 15

end Sys2Proof.Machine
end

