-- ==== Sys2Proof/Machine/Defaults.lean ====
section
/-! DEFINITION. The values of every block after full reset, from the levels sampled there (R22, R54, R61, R81, R95, R119, R135, R148,
R164, R167, R172, R178, R179, R180). -/

namespace Sys2Proof.Machine.Default

/-! ### Profile Store and Limit Table -/

/-- The profile number: twice PROF1 plus PROF0 (R178). -/
def profile (p : PinLevels) : Fin 4 :=
  match p.prof1, p.prof0 with
  | false, false => 0
  | false, true => 1
  | true, false => 2
  | true, true => 3

/-- The subjects, masks and bounds under profiles 0 to 3 of slots 0-9 (Table 11-1). -/
def seeds : List (Subject × Mask × Vector Half 4) :=
  [(0, 0b001, #v[280, 360, 720, 320]),
   (0, 0b110, #v[200, 240, 360, 200]),
   (1, 0b001, #v[120, 200, 440, 160]),
   (1, 0b010, #v[96, 144, 280, 120]),
   (1, 0b100, #v[48, 64, 96, 48]),
   (6, 0b010, #v[332, 332, 332, 328]),
   (6, 0b101, #v[352, 352, 352, 352]),
   (7, 0b111, #v[344, 344, 352, 344]),
   (8, 0b111, #v[360, 360, 360, 360]),
   (9, 0b100, #v[2, 2, 3, 2])]

/-- The record seeded in a slot under a profile (R22, R179); slots 10-47 are FREE. -/
def seedRecord (profile : Fin 4) (slot : SlotIx) : Option Record :=
  match seeds[slot.val]? with
  | none => none
  | some (subject, mask, bounds) =>
    some { state := .live, owner := 0, subject := subject, tag := BitVec.ofNat 8 (0xF0 + slot.val), cls := .anchored,
           bound := bounds[profile], mask := mask, pendingBound := none, pendingMask := none, lease := none, generation := 0 }

/-- The Limit Table from the selected profile (R22). -/
def table (profile : Fin 4) : Table := Vector.ofFn (seedRecord profile)

/-- The exponent of a commit interval in milliseconds (Table 3-1). -/
def commitInterval (n : Fin 8) : Count := BitVec.ofNat 32 (125 * 2 ^ n.val)

/-- The default exponents (Table 3-2). -/
def exponents : Vector (Fin 8) 10 := #v[0, 5, 1, 0, 0, 2, 6, 6, 6, 3]

/-- The commit timers: the first commit of each subject falls one interval after full reset (R54). -/
def commitTimers : Vector CommitTimer 10 :=
  Vector.ofFn fun i => { exponent := exponents[i], staged := none, nextExpiry := commitInterval exponents[i] }

/-- The first lease tick (R61). -/
def leaseClock : Count := 1000

/-! ### Posture Monitor -/

/-- The default strict settle time, in milliseconds (R81). -/
def strictTime : Half := 250

/-- The default loose settle time, in milliseconds (R81). -/
def looseTime : Half := 3000

/-- The five levels as sampled (R70). -/
def levels (p : PinLevels) : Vector Bool 5 := #v[p.lidOpen, p.dockPresent, p.contact, p.motion, p.adapterPresent]

/-- The settle machine: STEADY if the raw posture is BAG, else a LOOSE settle of the default time, held if MOTION is asserted (R81). -/
def settle (p : PinLevels) : Option Settle :=
  match rawPosture (levels p) with
  | .bag => none
  | raw => some { candidate := raw, kind := .loose, duration := looseTime, due := if p.motion then none else some 3000 }

/-- The Posture Monitor (R81). -/
def posture (p : PinLevels) : PostureMonitor where
  levels := levels p
  captures := Vector.replicate 5 none
  current := .bag
  settle := settle p
  lastChange := none
  strictTime := strictTime
  looseTime := looseTime

/-- The resolved entries: every subject against the seeded records in BAG (R95). -/
def resolver (profile : Fin 4) : Vector Entry 10 := Vector.ofFn (computeEntry (table profile) .bag)

/-! ### Measurement Unit, Governor, Output Stage -/

/-- The default filter shifts (Table 6-3). -/
def shifts : Vector (Fin 13) 9 := #v[2, 12, 3, 3, 2, 4, 10, 10, 10]

/-- The Measurement Unit (R119). -/
def measure : Measurement where
  scan := { period := .us1000, staged := none, next := ⟨1, 0⟩ }
  sequencer := .idle
  latest := Vector.replicate 9 none
  filters := Vector.replicate 9 none
  gains := Vector.replicate 9 64
  shifts := shifts

/-- A measured subject of the Governor at rest, with its settings (R135). -/
def governed (hysteresis riseHold fallHold : Half) (saturationTime : Byte) : Governed where
  pressure := 0
  lastStep := none
  runStart := none
  saturated := false
  hysteresis := hysteresis
  riseHold := riseHold
  fallHold := fallHold
  saturationTime := saturationTime

/-- The defaults of a power subject (R121). -/
def governedPower : Governed := governed 8 8 64 0

/-- The defaults of a current subject (R121). -/
def governedCurrent : Governed := governed 16 16 64 0

/-- The defaults of a temperature subject (R121): the saturation time is 2000 ms, 125 units of 16 ms. -/
def governedTemperature : Governed := governed 4 200 2000 125

/-- The default routes (Table 7-3), to THR_CPU, THR_GFX, CHG, FAN. -/
def routes : Vector (Vector (Option Level) 4) 9 :=
  #v[#v[some 0, none, none, none],
     #v[some 0, none, none, none],
     #v[none, some 0, none, none],
     #v[some 6, some 6, some 0, none],
     #v[some 0, some 2, none, none],
     #v[none, none, some 0, none],
     #v[some 4, some 4, none, some 0],
     #v[some 4, some 4, none, some 0],
     #v[some 8, none, some 0, some 2]]

/-- The Governor (R135). -/
def governor : Governor where
  subjects :=
    #v[governedPower, governedPower, governedPower, governedPower, governedCurrent, governedCurrent,
       governedTemperature, governedTemperature, governedTemperature]
  routes := routes
  targets := Vector.replicate 4 0

/-- An output in TRACKING at level 0 (R148); the period in units of 16 us. -/
def output (period : Byte) (nextEnd : Moment) (cutoff : Cutoff) (mask : SourceSet) (restart : Restart) : Output where
  period := period
  staged := none
  nextEnd := nextEnd
  applied := 0
  state := .tracking
  cutoff := cutoff
  mask := mask
  restart := restart

/-- The outputs (R148): masks CH7, CH8, OVERTEMP, SAT are bits 7, 8, 9, 10. -/
def outputs : Vector Output 4 :=
  #v[output 64 ⟨1, 24⟩ .full 0b11110000000 .manual,
     output 64 ⟨1, 24⟩ .full 0b11110000000 .manual,
     output 16 ⟨0, 256⟩ .zero 0b01110000000 .auto,
     output 3 ⟨0, 48⟩ .full 0b01010000000 .auto]

/-! ### Trip Unit and Link Port -/

/-- The Trip Unit before OVERTEMP is judged at count 0 (R164): CH7, CH8, OVERTEMP and SAT enabled; CH7 and OVERTEMP stop-class. -/
def trip (p : PinLevels) : TripUnit where
  state := .armed
  active := 0
  latched := 0
  capture := none
  stopTimer := none
  overtemp := p.overtemp
  stopAck := p.stopAck
  saturated := 0
  enable := 0b11110000000
  stopClass := 0b01010000000
  levels := #v[1023, 1023, 1023, 1023, 1023, 1023, 1023, 900, 300]
  stopTimeout := 50

/-- An empty notice state (R172). -/
def notices : NoticeState where
  pending := 0
  reported := 0
  enable := 0
  lastExpired := none
  lastOverridden := none
  lastCommitted := none

/-- The Link Port (R167, R172); a frame that SEL is holding open makes no frame (R166). -/
def link (p : PinLevels) : LinkPort where
  execution := none
  slot := none
  notices := Vector.replicate 8 notices
  sdo := []
  voidFrame := p.selLow

/-- Every sampled level low: what `State.reset` takes, since the manual leaves the levels to the board (DESIGN CHOICE, log 8). -/
def lowPins : PinLevels := ⟨false, false, false, false, false, false, false, false, false, false⟩

end Sys2Proof.Machine.Default
end

