-- ==== Sys2Proof/Machine/State.lean ====
section
/-! DEFINITION. The state of the part: every block's state, the model's own counter of free values, and the queue of rows waiting. -/

namespace Sys2Proof.Machine

/-- The whole state of the PL-620. `fresh` is the model's own: it draws the free values of Config (log 12). `pending` is the queue of
commands and events waiting, first in, first out (log 1). -/
structure State where
  timebase : Moment
  table : Table
  commitTimers : Vector CommitTimer 10
  leaseClock : Count
  posture : PostureMonitor
  resolver : Vector Entry 10
  measure : Measurement
  governor : Governor
  outputs : Vector Output 4
  trip : TripUnit
  link : LinkPort
  profile : Fin 4
  fresh : Nat
  pending : List Instr
  deriving DecidableEq, Repr

/-- No event of the part stops it: the manual gives it no fault. No constructor, so no step can answer a fault. -/
inductive Fault

/-- Why a row has no meaning. -/
inductive Refusal
  /-- Raised by a row of the table that has no meaning yet; safe: nothing can be proved of it. No row is left so. -/
  | notModelled (mnemonic : String)
  deriving DecidableEq, Repr

/-- The part right after a full reset that sampled every level low (R22, R52, R54, R61, R81, R95, R119, R135, R148, R164, R167, R178;
the sampled levels are DESIGN CHOICE, log 8). -/
def State.reset : State where
  timebase := ⟨0, 0⟩
  table := Default.table (Default.profile Default.lowPins)
  commitTimers := Default.commitTimers
  leaseClock := Default.leaseClock
  posture := Default.posture Default.lowPins
  resolver := Default.resolver (Default.profile Default.lowPins)
  measure := Default.measure
  governor := Default.governor
  outputs := Default.outputs
  trip := Default.trip Default.lowPins
  link := Default.link Default.lowPins
  profile := Default.profile Default.lowPins
  fresh := 0
  pending := []

end Sys2Proof.Machine
end

