-- ==== Sys2Proof/Machine/Flags.lean ====
section
/-! DEFINITION. Every condition and flag the manual judges: times elapsed, the record conditions, above and below, the trip conditions, the
force condition, and the levels of the pins that follow from the state (ALERT, STOP_REQ, OFF_REQ, the four PWM pins). -/

namespace Sys2Proof.Machine

/-- The set of the indexes that satisfy a test, one bit per index (Table 10-1). -/
def bitsWhere {n : Nat} (test : Fin n → Bool) : BitVec n :=
  (List.finRange n).foldl (fun acc i => if test i then acc ||| BitVec.twoPow n i.val else acc) 0

/-! ### Time (R52, R53) -/

/-- The milliseconds from one count to a later one, modulo 2^32 (R53). -/
def elapsed (since now : Count) : Nat := (now - since).toNat

/-- The microseconds of a moment from count 0. -/
def Moment.micros (m : Moment) : Nat := m.count.toNat * 1000 + m.micro.val

/-- The microseconds from a moment to a later one, across the wrap of the count (R103, R138). -/
def microsUntil (now later : Moment) : Nat := (later.micros + 2 ^ 32 * 1000 - now.micros) % (2 ^ 32 * 1000)

/-! ### Records (chapters 1 and 2) -/

/-- Whether a record waits for a commit of its subject (R24): it is RETIRING, or carries a pending part. -/
def waits (r : Record) : Bool :=
  r.state == .retiring || r.pendingBound.isSome || r.pendingMask.isSome

/-- Whether two records differ in one of the four fields of R36. -/
def differs (r r' : Record) : Bool :=
  r.bound != r'.bound || r.mask != r'.mask || r.pendingBound != r'.pendingBound || r.pendingMask != r'.pendingMask

/-- Whether an in-force value differs (R37). -/
def differsInForce (r r' : Record) : Bool := r.bound != r'.bound || r.mask != r'.mask

/-- Whether a requester may alter a record: its owner and requester 0 may (R26). -/
def mayAlter (r : Requester) (rec : Record) : Bool := r == rec.owner || r == 0

/-- Whether a command of this issuer on a record of this owner is an override (R3, R28). -/
def overrides (issuer owner : Requester) : Bool := issuer == 0 && owner != 0

/-- How many non-FREE records a requester owns (R19). -/
def owned (t : Table) (r : Requester) : Nat :=
  (List.finRange 48).countP fun i =>
    match t[i] with
    | some rec => rec.owner == r
    | none => false

/-- The most records an agent requester may own (R19). -/
def quota : Nat := 12

/-! ### Governor (chapter 7) -/

/-- The above condition: the value exceeds the limit; never with UNBOUNDED (R122). -/
def isAbove (limit : Option Half) (value : Nat) : Bool :=
  match limit with
  | none => false
  | some l => decide (l.toNat < value)

/-- The below condition: the value plus the hysteresis is less than the limit; always with UNBOUNDED (R122). -/
def isBelow (limit : Option Half) (hysteresis : Half) (value : Nat) : Bool :=
  match limit with
  | none => true
  | some l => decide (value + hysteresis.toNat < l.toNat)

/-- Whether a hold has elapsed: there is no time of last change, or it lies at least the hold back (R123). -/
def holdElapsed (lastStep : Option Count) (hold : Half) (now : Count) : Bool :=
  match lastStep with
  | none => true
  | some t => decide (hold.toNat ≤ elapsed t now)

/-- The saturation time in milliseconds. -/
def saturationMillis (g : Governed) : Nat := 16 * g.saturationTime.toNat

/-- The set of saturated subjects (R127). -/
def saturatedSet (g : Governor) : BitVec 9 := bitsWhere fun m => g.subjects[m].saturated

/-! ### Trip Unit (chapter 9) -/

/-- Whether a source's condition holds (R150): CH0-CH7 at or above their level, CH8 below it, OVERTEMP asserted, SAT non-empty. -/
def sourceCondition (t : TripUnit) (latest : Vector (Option (BitVec 10)) 9) (src : Source) : Bool :=
  if h : src.val < 9 then
    match latest[src.val] with
    | none => false
    | some code => if src.val = 8 then decide (code.toNat < t.levels[src.val].toNat) else decide (t.levels[src.val].toNat ≤ code.toNat)
  else if src.val = 9 then t.overtemp
  else t.saturated != 0

/-- The enabled sources whose condition holds (R150). -/
def judgedSet (t : TripUnit) (latest : Vector (Option (BitVec 10)) 9) : SourceSet :=
  t.enable &&& bitsWhere (sourceCondition t latest)

/-- The first source of a set, in the order CH0 to CH8, OVERTEMP, SAT (R162). -/
def firstSource (set : SourceSet) : Option Source := (List.finRange 11).find? fun i => set.getLsbD i.val

/-- STOP_REQ: asserted exactly in STOPPING, STOPPED and OFF (R153). -/
def stopReq (t : TripUnit) : Bool :=
  match t.state with
  | .stopping | .stopped | .off => true
  | .armed | .tripped => false

/-- OFF_REQ: asserted in OFF (R157). -/
def offReq (t : TripUnit) : Bool := t.state == .off

/-! ### Output Stage (chapter 8) -/

/-- The force condition of an output (R141): AUTO reads the active set, MANUAL the latched set. -/
def forceCondition (active latched : SourceSet) (o : Output) : Bool :=
  match o.restart with
  | .auto => o.mask &&& active != 0
  | .manual => o.mask &&& latched != 0

/-- The length of a period in microseconds. -/
def periodMicros (units : Byte) : Nat := 16 * units.toNat

/-- The asserted time of a TRACKING period, in microseconds (R139): P / 16 is the number of units of 16 us. -/
def assertedMicros (ix : OutputIx) (o : Output) : Nat :=
  (if ix = chargeOutput then 15 - o.applied.val else o.applied.val) * o.period.toNat

/-- Whether an output's pin is asserted at a moment (R139, R142, R143). -/
def pinAsserted (now : Moment) (ix : OutputIx) (o : Output) : Bool :=
  match o.state with
  | .tracking => decide (periodMicros o.period - microsUntil now o.nextEnd < assertedMicros ix o)
  | .forced | .releasing => o.cutoff == .full

/-! ### Link Port (chapter 10) -/

/-- ALERT: some requester's pending set and enable set share a kind (R174). -/
def alert (l : LinkPort) : Bool := l.notices.toList.any fun n => n.pending &&& n.enable != 0

/-- The requester and the fields of the command in execution (R167). -/
def State.taken (s : State) : Option (Requester × Command) := s.link.execution.map fun e => (e.requester, e.command)

end Sys2Proof.Machine
end

