-- ==== Sys2Proof/Machine/Operands.lean ====
section
/-! DEFINITION. Every operand form: the fields of the commands as the owning blocks read and check them (RANGE), and every byte layout of
the responses (R177, Tables 10-1 to 10-9). -/

namespace Sys2Proof.Machine

/-! ### Fields of the commands -/

/-- A byte that must lie below n. -/
def below (n : Nat) (b : Byte) : Option (Fin n) := if h : b.toNat < n then some ⟨b.toNat, h⟩ else none

/-- A key; none when its owner lies outside 0-7 or its subject outside 0-9 (R25). -/
def keyOf (f : KeyFields) : Option Key :=
  match below 8 f.owner, below 10 f.subject with
  | some owner, some subject => some ⟨owner, subject, f.tag⟩
  | _, _ => none

/-- An expected generation: absent or present; none when its present flag is neither 0 nor 1 (R27, R177). -/
def expectOf (f : ExpectFields) : Option (Option Byte) :=
  if f.flag = 0 then some none else if f.flag = 1 then some (some f.generation) else none

/-- A posture mask; none when it is empty or names anything other than DESK, LAP and BAG (R30, R33). -/
def maskOf (b : Byte) : Option Mask := if b ≠ 0 ∧ b.toNat < 8 then some (b.setWidth 3) else none

/-- Whether a bound lies in the subject's bound range: 0-15 for FAN_CAP, 0-65535 for the others (R4). -/
def boundInRange (sub : Subject) (bound : Half) : Bool := sub != fanCapSubject || decide (bound.toNat ≤ 15)

/-- The longest lease, in seconds (R13). -/
def maxLease : Nat := 43200

/-- The lease of a PLACE (R30): none when the flag is neither 0 nor 1, the lease is absent from an agent requester, is 0 or above 43200,
or is named with ANCHORED. The lease bytes are not read when the flag is 0 (R177). -/
def placeLeaseOf (r : Requester) (cls : RecordClass) (flag : Byte) (lease : Half) : Option (Option Nat) :=
  if flag = 0 then (if r = 0 then some none else none)
  else if flag = 1 ∧ lease ≠ 0 ∧ lease.toNat ≤ maxLease ∧ cls = .ordinary then some (some lease.toNat)
  else none

/-- A record class (Table 10-2). -/
def classOf (b : Byte) : Option RecordClass := if b = 0 then some .ordinary else if b = 1 then some .anchored else none

/-- The record a PLACE asks for (R32); none when its second check fails, RANGE (R30). -/
def placedRecord (r : Requester) (f : PlaceFields) : Option Record :=
  match below 10 f.subject, maskOf f.mask, classOf f.cls with
  | some subject, some mask, some cls =>
    if boundInRange subject f.bound then
      match placeLeaseOf r cls f.leaseFlag f.lease with
      | some lease =>
        some { state := .live, owner := r, subject := subject, tag := f.tag, cls := cls, bound := f.bound, mask := mask,
               pendingBound := none, pendingMask := none, lease := lease, generation := 0 }
      | none => none
    else none
  | _, _, _ => none

/-- A subject selector: a subject, or ALL (absent); none for any other value (Table 10-1). -/
def selectorOf (b : Byte) : Option (Option Subject) :=
  if b = 0xFF then some none else (below 10 b).map some

/-- A notice set; none when it names a bit that is no kind (R173). -/
def noticeSetOf (b : Byte) : Option NoticeSet := if b.toNat < 64 then some (b.setWidth 6) else none

/-- A trip source set; none when it names a bit that is no source (R145, R177). -/
def sourceSetOf (w : Half) : Option SourceSet := if w.toNat < 2048 then some (w.setWidth 11) else none

/-- A scan period in units of 500 us (Table 10-2). -/
def scanPeriodOf (b : Byte) : Option ScanPeriod :=
  if b = 1 then some .us500 else if b = 2 then some .us1000 else if b = 4 then some .us2000 else if b = 8 then some .us4000 else none

/-- The units of 500 us of a scan period. -/
def scanUnits : ScanPeriod → Byte
  | .us500 => 1 | .us1000 => 2 | .us2000 => 4 | .us4000 => 8

/-- The microseconds of a scan period (R103). -/
def scanMicros : ScanPeriod → Nat
  | .us500 => 500 | .us1000 => 1000 | .us2000 => 2000 | .us4000 => 4000

/-- A route entry: an offset, or NONE (absent); none for any other value (Table 10-1). -/
def routeOf (b : Byte) : Option (Option Level) := if b = 0xFF then some none else (below 16 b).map some

/-- A cutoff level (Table 10-2). -/
def cutoffOf (b : Byte) : Option Cutoff := if b = 0 then some .zero else if b = 1 then some .full else none

/-- A restart mode (Table 10-2). -/
def restartOf (b : Byte) : Option Restart := if b = 0 then some .auto else if b = 1 then some .manual else none

/-- The settings a SET OUTPUT names (R145). -/
structure OutputSettings where
  output : OutputIx
  period : Byte
  cutoff : Cutoff
  mask : SourceSet
  restart : Restart
  deriving DecidableEq, Repr

/-- The settings of a SET OUTPUT; none when a field is out of range (R145): a period of 0 is outside 16-4080 us. -/
def outputSettingsOf (f : OutputFields) : Option OutputSettings :=
  match below 4 f.output, cutoffOf f.cutoff, sourceSetOf f.mask, restartOf f.restart with
  | some output, some cutoff, some mask, some restart =>
    if f.period ≠ 0 then some ⟨output, f.period, cutoff, mask, restart⟩ else none
  | _, _, _, _ => none

/-- The settings a SET TRIP names (R161). -/
structure TripSettings where
  enable : SourceSet
  stopClass : SourceSet
  levels : Vector (BitVec 10) 9
  stopTimeout : Byte
  deriving DecidableEq, Repr

/-- The settings of a SET TRIP; none when a reserved bit is 1 or the stop timeout is 0 (R161, Table 10-3). Bit i of the table is bit
127 - i of the packed payload. The sets and the levels have no other value out of range in 11 and 10 bits. -/
def tripSettingsOf (w : BitVec 128) : Option TripSettings :=
  if w.extractLsb' 104 2 = 0 ∧ w.extractLsb' 0 6 = 0 ∧ w.extractLsb' 96 8 ≠ 0 then
    some { enable := bitsWhere fun i : Fin 11 => w.getMsbD i.val
           stopClass := bitsWhere fun i : Fin 11 => w.getMsbD (11 + i.val)
           levels := Vector.ofFn fun c : Fin 9 => w.extractLsb' (86 - 10 * c.val) 10
           stopTimeout := w.extractLsb' 96 8 }
  else none

/-- A settle time of SET POSTURE (R83): present when its flag bit is set, and then within its limit and a whole multiple of its step. -/
def settleTimeAccepted (present : Bool) (limit step : Nat) (t : Half) : Bool :=
  !present || (decide (t.toNat ≤ limit) && decide (t.toNat % step = 0))

/-! ### Bytes of the responses -/

/-- A byte of a number below 256. -/
def byteOf (n : Nat) : Byte := BitVec.ofNat 8 n

/-- A byte of flags, bit 0 first. The tables do not say what a bit of a response that they leave unassigned is sent as: here, and in every other
byte of the responses, it is sent as 0 (DESIGN CHOICE, log 24). -/
def byteOfFlags (flags : List Bool) : Byte := byteOf (flags.foldr (fun b n => b.toNat + 2 * n) 0)

/-- A two-byte number of a number below 65536. -/
def halfOf (n : Nat) : Half := BitVec.ofNat 16 n

/-- The code of a status (Table 10-5). -/
def statusByte : Status → Byte
  | .ok => 0x00 | .staged => 0x01 | .notReady => 0x02 | .empty => 0x03 | .notFound => 0x10 | .duplicate => 0x11 | .full => 0x12
  | .quota => 0x13 | .stale => 0x14 | .retiring => 0x15 | .denied => 0x16 | .range => 0x17 | .active => 0x18 | .tripBusy => 0x19
  | .tripOff => 0x1A | .check => 0x20 | .framing => 0x21 | .malformed => 0x22 | .unknown => 0x23

/-- The bytes of a response with its check byte (Table 10-4). -/
def responseBytes (r : Response) : List Byte :=
  withCheck ([statusByte r.status, byteOfFlags [r.priorUnread, r.dropped], byteOf r.requester.val, r.notices.setWidth 8,
    byteOf r.payload.length] ++ r.payload)

/-- The bits of a byte sequence on SDO during a frame of so many clocked bits: low during the header byte and after the last byte
(R166, R171). -/
def shiftedOut (bits : Nat) (answer : List Byte) : List Bool :=
  (List.replicate 8 false ++ bitsOfBytes answer ++ List.replicate bits false).take bits

/-- The number of a posture on the link. -/
def postureByte (p : Posture) : Byte := byteOf (postureIndex p)

/-- A slot byte. -/
def slotByte (i : SlotIx) : Byte := byteOf i.val

/-- An optional slot: bit 7 present, bits 0-5 slot (Table 10-7). -/
def optionalSlotByte : Option SlotIx → Byte
  | some i => byteOf (128 + i.val)
  | none => 0

/-- The number of a record state (Table 10-1). -/
def recordStateByte : RecordState → Byte
  | .live => 1 | .retiring => 2

/-- The image of a slot in a posture (Table 10-6): a FREE slot carries its slot and state and 0 in bytes 2-13. -/
def imageBytes (p : Posture) (slot : SlotIx) : Option Record → List Byte
  | none => [slotByte slot, 0, 0, 0, 0, 0, 0, 0, 0, 0, 0, 0, 0, 0]
  | some r =>
    [slotByte slot, recordStateByte r.state, byteOf r.owner.val, byteOf r.subject.val, r.tag,
      byteOfFlags [r.cls == .anchored, r.pendingBound.isSome, r.pendingMask.isSome, r.lease.isSome, applies p r]]
    ++ bytesOfHalf r.bound ++ bytesOfHalf (r.pendingBound.getD 0)
    ++ [byteOf (r.mask.toNat + 16 * (r.pendingMask.getD 0).toNat)]
    ++ bytesOfHalf (halfOf (r.lease.getD 0)) ++ [r.generation]

/-- An entry of READ RESOLVED (Table 10-7). -/
def entryBytes (sub : Subject) (e : Entry) : List Byte :=
  [byteOf sub.val, byteOfFlags [e.limit.isSome, e.winner.isSome]] ++ bytesOfHalf (e.limit.getD 0)
  ++ [byteOf ((e.winner.map (·.val)).getD 0), byteOf e.count]

/-- The settle byte of READ POSTURE (Table 10-8, byte 2). -/
def settleByte : Option Settle → Byte
  | none => 0
  | some st =>
    byteOf (1 + 2 * postureIndex st.candidate + (if st.kind = .loose then 8 else 0) + (if st.due.isNone then 16 else 32))

/-- The settle duration and the settle remaining of READ POSTURE (R85): the remaining time is the due count less the present count. R85 gives
it the range 1-25500, and a response built at the due count before the expiry is taken (an order R86 allows) finds the difference 0: the model
sends that 0 with the present bit set (DESIGN CHOICE, log 20). -/
def settleTimes (now : Count) : Option Settle → List Byte
  | none => [0, 0, 0, 0]
  | some st =>
    bytesOfHalf st.duration ++
      match st.due with
      | none => [0, 0]
      | some due => bytesOfHalf (halfOf (elapsed now due))

/-- The payload of READ POSTURE (Table 10-8). -/
def posturePayload (now : Count) (p : PostureMonitor) : List Byte :=
  [postureByte p.current, postureByte (rawPosture p.levels), settleByte p.settle] ++ settleTimes now p.settle
  ++ [byteOfFlags p.levels.toList, byteOfFlags (p.captures.toList.map (·.isSome) ++ [p.lastChange.isSome])]
  ++ p.captures.toList.flatMap (fun c => bytesOfCount (c.getD 0))
  ++ (match p.lastChange with
      | none => [0, 0, 0, 0, 0]
      | some (count, prior) => bytesOfCount count ++ [postureByte prior])

/-- The reported value of a filter: its integer part (R109). -/
def reported (filter : Nat) : Nat := filter / 256

/-- The payload of READ MEASURE (Table 10-7). -/
def measurePayload (m : Measurement) : List Byte :=
  bytesOfHalf ((bitsWhere fun c : Channel => m.latest[c].isSome).setWidth 16)
  ++ bytesOfHalf ((bitsWhere fun i : Measured => m.filters[i].isSome).setWidth 16)
  ++ m.latest.toList.flatMap (fun code => bytesOfHalf ((code.getD 0).setWidth 16))
  ++ m.filters.toList.flatMap (fun f => bytesOfHalf (halfOf (reported (f.getD 0))))

/-- The payload of READ GOVERNOR (Table 10-7). -/
def governorPayload (g : Governor) : List Byte :=
  g.subjects.toList.map (fun x => byteOf x.pressure.val) ++ bytesOfHalf ((saturatedSet g).setWidth 16)
  ++ g.targets.toList.map (fun l => byteOf l.val)

/-- The number of a trip state (Table 10-1). -/
def tripStateByte : TripState → Byte
  | .armed => 0 | .tripped => 1 | .stopping => 2 | .stopped => 3 | .off => 4

/-- The payload of READ TRIP (Table 10-7). -/
def tripPayload (t : TripUnit) : List Byte :=
  [tripStateByte t.state] ++ bytesOfHalf (t.active.setWidth 16) ++ bytesOfHalf (t.latched.setWidth 16)
  ++ (match t.capture with
      | none => [0, 0, 0, 0, 0]
      | some (count, src) => byteOf (128 + src.val) :: bytesOfCount count)
  ++ bytesOfHalf (t.saturated.setWidth 16)

/-- The payload of READ NOTICES (Table 10-7). -/
def noticesPayload (n : NoticeState) : List Byte :=
  [n.pending.setWidth 8, n.reported.setWidth 8, n.enable.setWidth 8, optionalSlotByte n.lastExpired,
    optionalSlotByte n.lastOverridden, optionalSlotByte n.lastCommitted]

/-- The payload of READ PROFILE (Table 10-7, R176). -/
def profilePayload (profile : Fin 4) : List Byte :=
  bytesOfHalf Config.partCode ++ [Config.revision, byteOf profile.val]

/-- A commit timer in READ SETTINGS (Table 10-9, selector 0). -/
def commitTimerByte (t : CommitTimer) : Byte :=
  byteOf (t.exponent.val + (match t.staged with | none => 0 | some n => 8 + 16 * n.val))

/-- A route entry on the link (Table 10-1). -/
def routeByte : Option Level → Byte
  | none => 0xFF
  | some offset => byteOf offset.val

/-- The number of an output state (Table 10-9). -/
def outputStateNumber : OutputState → Nat
  | .tracking => 0 | .forced => 1 | .releasing => 2

/-- An output in READ SETTINGS (Table 10-9, selector 4). -/
def outputBytes (o : Output) : List Byte :=
  [o.period, o.staged.getD 0,
    byteOf ((if o.staged.isSome then 1 else 0) + (if o.cutoff = .full then 2 else 0) + (if o.restart = .manual then 4 else 0)
      + 8 * outputStateNumber o.state)]
  ++ bytesOfHalf (o.mask.setWidth 16) ++ [byteOf o.applied.val]

/-- The settings of a measured subject of the Governor in READ SETTINGS (Table 10-9, selector 3). -/
def governedBytes (g : Governor) (m : Measured) : List Byte :=
  bytesOfHalf g.subjects[m].hysteresis ++ bytesOfHalf g.subjects[m].riseHold ++ bytesOfHalf g.subjects[m].fallHold
  ++ [g.subjects[m].saturationTime] ++ g.routes[m].toList.map routeByte

/-- The settings of the Measurement Unit in READ SETTINGS (Table 10-9, selector 2). -/
def measureSettingsBytes (m : Measurement) : List Byte :=
  [scanUnits m.scan.period, (match m.scan.staged with | none => 0 | some p => scanUnits p + 128)]
  ++ (List.finRange 9).flatMap (fun i => [m.gains[i], byteOf m.shifts[i].val])

/-- The settings of the Trip Unit in READ SETTINGS (Table 10-9, selector 5). -/
def tripSettingsBytes (t : TripUnit) : List Byte :=
  bytesOfHalf (t.enable.setWidth 16) ++ bytesOfHalf (t.stopClass.setWidth 16)
  ++ t.levels.toList.flatMap (fun l => bytesOfHalf (l.setWidth 16)) ++ [t.stopTimeout]

/-- The payload of READ SETTINGS (R176, Table 10-9); none when the selector or the index is refused RANGE. -/
def settingsPayload (s : State) (block index : Byte) : Option (List Byte) :=
  if block = 3 then (below 9 index).map (governedBytes s.governor)
  else if index ≠ 0 then none
  else if block = 0 then some (s.commitTimers.toList.map commitTimerByte)
  else if block = 1 then some (bytesOfHalf s.posture.strictTime ++ bytesOfHalf s.posture.looseTime)
  else if block = 2 then some (measureSettingsBytes s.measure)
  else if block = 4 then some (s.outputs.toList.flatMap outputBytes)
  else if block = 5 then some (tripSettingsBytes s.trip)
  else none

/-- The payload of READ RESOLVED (R100, Table 10-7): the fan cap follows when FAN_CAP is included. -/
def resolvedPayload (entries : Vector Entry 10) : Option Subject → List Byte
  | some sub => entryBytes sub entries[sub] ++ (if sub = fanCapSubject then [byteOf (fanCapOf entries[fanCapSubject]).val] else [])
  | none =>
    (List.finRange 10).flatMap (fun sub => entryBytes sub entries[sub]) ++ [byteOf (fanCapOf entries[fanCapSubject]).val]

end Sys2Proof.Machine
end

