-- ==== Sys2Proof/Machine/Ops.lean ====
section
/-! DEFINITION. The named operations the meanings are written over: one write per field of State, Timebase arithmetic, notices, responses,
recomputes of entries and targets, the judgement of trip sources and its hand-over, posture changes, evaluations, and the keyed checks. -/

namespace Sys2Proof.Machine

/-! ### One write per field of State -/

/-- The state with this timebase. -/
def State.withTimebase (s : State) (x : Moment) : State := { s with timebase := x }

/-- The state with this table. -/
def State.withTable (s : State) (x : Table) : State := { s with table := x }

/-- The state with this commitTimers. -/
def State.withCommitTimers (s : State) (x : Vector CommitTimer 10) : State := { s with commitTimers := x }

/-- The state with this leaseClock. -/
def State.withLeaseClock (s : State) (x : Count) : State := { s with leaseClock := x }

/-- The state with this posture. -/
def State.withPosture (s : State) (x : PostureMonitor) : State := { s with posture := x }

/-- The state with this resolver. -/
def State.withResolver (s : State) (x : Vector Entry 10) : State := { s with resolver := x }

/-- The state with this measure. -/
def State.withMeasure (s : State) (x : Measurement) : State := { s with measure := x }

/-- The state with this governor. -/
def State.withGovernor (s : State) (x : Governor) : State := { s with governor := x }

/-- The state with this outputs. -/
def State.withOutputs (s : State) (x : Vector Output 4) : State := { s with outputs := x }

/-- The state with this trip. -/
def State.withTrip (s : State) (x : TripUnit) : State := { s with trip := x }

/-- The state with this link. -/
def State.withLink (s : State) (x : LinkPort) : State := { s with link := x }

/-- The state with this profile. -/
def State.withProfile (s : State) (x : Fin 4) : State := { s with profile := x }

/-- The state with this fresh. -/
def State.withFresh (s : State) (x : Nat) : State := { s with fresh := x }

/-- The state with this pending. -/
def State.withPending (s : State) (x : List Instr) : State := { s with pending := x }

/-! ### Timebase (R52, R53) -/

/-- The moment so many microseconds later, across the wrap of the count (R52, R103). -/
def Moment.later (m : Moment) (micros : Nat) : Moment :=
  ⟨m.count + BitVec.ofNat 32 ((m.micro.val + micros) / 1000), Fin.ofNat 1000 (m.micro.val + micros)⟩

/-- The count so many milliseconds later, modulo 2^32 (R53). -/
def laterCount (c : Count) (millis : Nat) : Count := c + BitVec.ofNat 32 millis

/-- An event that the part does not have at this moment: nothing happens (log 3). -/
def noEvent (s : State) : Host.Outcome State Fault Refusal := .next s

/-- A list in an order drawn from the free values from n on, one pick after another (log 2, log 19). -/
def arrange {α : Type} : Nat → Nat → List α → List α
  | 0, _, l => l
  | _ + 1, _, [] => []
  | _ + 1, _, [e] => [e]
  | fuel + 1, n, l =>
    let i := Config.orderPick n % l.length
    match l[i]? with
    | some e => e :: arrange fuel (n + 1) (l.eraseIdx i)
    | none => l

/-! ### Notices (R172) -/

/-- The bit of a notice's kind (Table 10-1). -/
def Notice.bit : Notice → NoticeSet
  | .expired _ => 0b000001
  | .overridden _ => 0b000010
  | .committed _ => 0b000100
  | .posture => 0b001000
  | .trip => 0b010000
  | .reset => 0b100000

/-- A notice handed to a requester's notice state (R172): its kind becomes pending and is no longer reported; its slot, where it carries
one, becomes the last slot of the kind. -/
def NoticeState.take (n : NoticeState) (notice : Notice) : NoticeState where
  pending := n.pending ||| notice.bit
  reported := n.reported &&& ~~~notice.bit
  enable := n.enable
  lastExpired := match notice with | .expired slot => some slot | _ => n.lastExpired
  lastOverridden := match notice with | .overridden slot => some slot | _ => n.lastOverridden
  lastCommitted := match notice with | .committed slot => some slot | _ => n.lastCommitted

/-- The state with other notice states. -/
def State.withNotices (s : State) (notices : Vector NoticeState 8) : State := s.withLink { s.link with notices := notices }

/-- A notice handed to one requester (R172). -/
def post (s : State) (r : Requester) (notice : Notice) : State :=
  s.withNotices (s.link.notices.set r (s.link.notices[r].take notice))

/-- Notices handed over one after another, in order (R172). -/
def postList (s : State) (notices : List (Requester × Notice)) : State :=
  notices.foldl (fun s n => post s n.1 n.2) s

/-- A notice handed to all eight requesters (R78, R154, R175). -/
def postAll (s : State) (notice : Notice) : State :=
  s.withNotices (Vector.ofFn fun r : Requester => s.link.notices[r].take notice)

/-! ### Responses (R168, R169, R173) -/

/-- A response built for a requester and placed in the slot (R169): PRIOR_UNREAD when the slot held a response not fetched, the notice set
the requester's pending set, which becomes its reported set (R173). -/
def placeResponse (s : State) (r : Requester) (dropped : Bool) (reply : Reply) : State :=
  let n := s.link.notices[r]
  let unread := match s.link.slot with
    | none => false
    | some held => !held.fetched
  s.withLink { s.link with
    slot := some { response := { status := reply.status, priorUnread := unread, dropped := dropped, requester := r,
                                 notices := n.pending, payload := reply.payload },
                   fetched := false }
    notices := s.link.notices.set r { n with reported := n.pending } }

/-- The state with the Link Port IDLE (R169). -/
def goIdle (s : State) : State := s.withLink { s.link with execution := none }

/-- The completion of the command in execution (R169): the block's claim is whole, its reply is placed, the Link Port is IDLE. -/
def respond (p : State × Reply) : State :=
  match p.1.link.execution with
  | none => p.1
  | some e => goIdle (placeResponse p.1 e.requester e.dropped p.2)

/-- The completion as a step. -/
def answer (p : State × Reply) : Host.Outcome State Fault Refusal := .next (respond p)

/-- A command refused by its block: nothing is altered, and the response carries no payload (R24). -/
def refuse (s : State) (status : Status) : State × Reply := (s, ⟨status, []⟩)

/-- A command accepted with status OK and no payload. -/
def accept (s : State) : State × Reply := (s, ⟨.ok, []⟩)

/-! ### Resolver and targets (R89, R92, R96, R97, R129) -/

/-- The demand a measured subject makes on an actuator: its pressure less its offset, not below 0; 0 without a route (R129). -/
def contribution (g : Governor) (a : OutputIx) (m : Measured) : Level :=
  match g.routes[m][a] with
  | none => 0
  | some offset => ⟨g.subjects[m].pressure.val - offset.val, by omega⟩

/-- The demand on an actuator: the largest contribution (R129). -/
def demand (g : Governor) (a : OutputIx) : Level :=
  (List.finRange 9).foldl (fun d m => max d (contribution g a m)) 0

/-- The target level of an actuator: the demand, for FAN limited by the fan cap (R129). -/
def targetLevel (g : Governor) (fanCap : Level) (a : OutputIx) : Level :=
  if a = fanOutput then min (demand g a) fanCap else demand g a

/-- The fan cap the Resolver holds (R96). -/
def State.fanCap (s : State) : Level := fanCapOf s.resolver[fanCapSubject]

/-- The target level of an actuator recomputed (R130). -/
def recomputeTarget (s : State) (a : OutputIx) : State :=
  s.withGovernor { s.governor with targets := s.governor.targets.set a (targetLevel s.governor s.fanCap a) }

/-- A recompute of a subject (R89): its entry is computed afresh, and a changed fan cap recomputes the FAN target (R97). -/
def recompute (s : State) (sub : Subject) : State :=
  let s' := s.withResolver (s.resolver.set sub (computeEntry s.table s.posture.current sub))
  if s'.fanCap = s.fanCap then s' else recomputeTarget s' fanOutput

/-- Recomputes of subjects, once each (R92). -/
def recomputeList (s : State) (subjects : List Subject) : State := subjects.foldl recompute s

/-- A recompute of every subject (R78, R23). -/
def recomputeAll (s : State) : State := recomputeList s (List.finRange 10)

/-! ### Trip Unit (R151 to R155) and Output Stage (R141 to R143) -/

/-- An output after its force condition is judged from the sets handed over (Table 8-1). -/
def judgeOutput (active latched : SourceSet) (o : Output) : Output :=
  if forceCondition active latched o then { o with state := .forced }
  else
    match o.state with
    | .forced => { o with state := .releasing }
    | .tracking | .releasing => o

/-- The Trip Unit's sets handed to the Output Stage (R141, R154): every output judges its condition afresh. -/
def handOver (s : State) : State :=
  s.withOutputs (Vector.ofFn fun ix : OutputIx => judgeOutput s.trip.active s.trip.latched s.outputs[ix])

/-- STOPPING entered (R155): an acknowledgement already asserted is taken at once, otherwise the stop timer starts. -/
def enterStopping (now : Count) (t : TripUnit) : TripUnit :=
  if t.stopAck then { t with state := .stopped }
  else { t with state := .stopping, stopTimer := some (laterCount now t.stopTimeout.toNat) }

/-- The move of the trip state when sources are latched (R153), `grave` when one of them is stop-class. -/
def escalate (now : Count) (grave : Bool) (t : TripUnit) : TripUnit :=
  match t.state with
  | .armed | .tripped => if grave then enterStopping now t else { t with state := .tripped }
  | .stopping | .stopped | .off => t

/-- The Trip Unit after sources not yet latched are latched (R152, R162): the first-trip capture is taken when the latched set was empty. -/
def latch (now : Count) (new : SourceSet) (t : TripUnit) : TripUnit :=
  escalate now (t.stopClass &&& new != 0)
    { t with
      capture := if t.latched = 0 then (firstSource new).map fun src => (now, src) else t.capture
      latched := t.latched ||| new }

/-- The sources named are judged afresh from the settings, the latest codes, the kept level and the saturated set (R151, R162): risers join
the active set and latch (R152), fallers leave it; a change of either set is handed over and a latching posts TRIP to all (R154). -/
def judgeSources (s : State) (which : SourceSet) : State :=
  let active := (s.trip.active &&& ~~~which) ||| (judgedSet s.trip s.measure.latest &&& which)
  let new := active &&& ~~~s.trip.active &&& ~~~s.trip.latched
  let t := { s.trip with active := active }
  if new ≠ 0 then postAll (handOver (s.withTrip (latch s.timebase.count new t))) .trip
  else if active ≠ s.trip.active then handOver (s.withTrip t)
  else s

/-- The set of one source. -/
def sourceBit (src : Source) : SourceSet := BitVec.twoPow 11 src.val

/-- OVERTEMP and SAT by number (Table 10-1). -/
def overtempSource : Source := 9

/-- SAT by number (Table 10-1). -/
def satSource : Source := 10

/-- The saturated set handed to the Trip Unit, which judges SAT from it (R127, R151). -/
def handSaturated (s : State) : State :=
  judgeSources (s.withTrip { s.trip with saturated := saturatedSet s.governor }) (sourceBit satSource)

/-! ### Evaluation (R122 to R126) -/

/-- The time of last change as an evaluation finds it: removed when 65536 ms or more have elapsed (R123). -/
def freshStep (now : Count) (lastStep : Option Count) : Option Count :=
  match lastStep with
  | none => none
  | some t => if 65536 ≤ elapsed t now then none else some t

/-- The pressure step of an evaluation (R123). -/
def stepPressure (now : Count) (limit : Option Half) (value : Nat) (g : Governed) : Governed :=
  let g := { g with lastStep := freshStep now g.lastStep }
  if isAbove limit value ∧ g.pressure.val < 15 ∧ holdElapsed g.lastStep g.riseHold now then
    { g with pressure := Fin.ofNat 16 (g.pressure.val + 1), lastStep := some now }
  else if isBelow limit g.hysteresis value ∧ 0 < g.pressure.val ∧ holdElapsed g.lastStep g.fallHold now then
    { g with pressure := Fin.ofNat 16 (g.pressure.val - 1), lastStep := some now }
  else g

/-- The saturation run judged from the pressure after the step (R126). -/
def judgeRun (now : Count) (limit : Option Half) (value : Nat) (g : Governed) : Governed :=
  if g.pressure = 15 ∧ isAbove limit value then
    match g.runStart with
    | none => { g with runStart := some now }
    | some start =>
      if g.saturationTime ≠ 0 ∧ saturationMillis g ≤ elapsed start now then { g with saturated := true } else g
  else
    match g.runStart with
    | none => g
    | some _ => { g with runStart := none, saturated := false }

/-- The actuators to which a measured subject has a route (R124). -/
def routed (g : Governor) (m : Measured) : List OutputIx := (List.finRange 4).filter fun a => g.routes[m][a].isSome

/-- An evaluation of a measured subject at the value its update carries (R122): the step, the run, then the targets of its routes when it
stepped and the saturated set when its flag changed (R124). -/
def evaluate (s : State) (m : Measured) (value : Nat) : State :=
  let now := s.timebase.count
  let limit := s.resolver[m.castSucc].limit
  let g := s.governor.subjects[m]
  let g' := judgeRun now limit value (stepPressure now limit value g)
  let s := s.withGovernor { s.governor with subjects := s.governor.subjects.set m g' }
  let s := if g'.pressure ≠ g.pressure then (routed s.governor m).foldl recomputeTarget s else s
  if g'.saturated ≠ g.saturated then handSaturated s else s

/-! ### Measurement (R101, R108, R109, R112) -/

/-- The subjects a channel feeds (Table 6-1). -/
def feeds (c : Channel) : List Measured :=
  if c = 0 then [0, 1] else if h : c.val < 8 then [⟨c.val + 1, by omega⟩] else []

/-- The sample of a code in units of 1/256: the code times the gain, divided by 32 (R108). -/
def sampleOf (code : BitVec 10) (gain : Byte) : Nat := code.toNat * gain.toNat * 8

/-- A filter after an update (R109): the difference over 2^k, truncated toward zero, is added. -/
def updatedFilter (filter : Option Nat) (sample : Nat) (k : Fin 13) : Nat :=
  match filter with
  | none => sample
  | some f => if f ≤ sample then f + (sample - f) / 2 ^ k.val else f - (f - sample) / 2 ^ k.val

/-- A filter update of a subject from a code, handed to the Governor (R109, R110). -/
def filterUpdate (s : State) (code : BitVec 10) (m : Measured) : State :=
  let f := updatedFilter s.measure.filters[m] (sampleOf code s.measure.gains[m]) s.measure.shifts[m]
  evaluate (s.withMeasure { s.measure with filters := s.measure.filters.set m (some f) }) m (reported f)

/-- The state with another sequencer state. -/
def State.withSequencer (s : State) (q : Sequencer) : State := s.withMeasure { s.measure with sequencer := q }

/-- Two actions that the manual gives no order: both orders end the same but for the first-trip capture (R101; log 7), and where they end
with different captures a free value says which is taken. -/
def eitherOrder (f g : State → State) (s : State) : State :=
  let a := g (f s)
  let b := f (g s)
  if a.trip.capture = b.trip.capture then a else if Config.evaluationsFirst s.fresh then a else b

/-- A completion of a channel with its code (R101): the latest code, the updates of the filters it feeds with their evaluations, and the
judgement of the channel's trip source. It is taken whole, as R101 says; the two evaluations of CH0 end the same in either order (R125; log 7),
and a completion of CH0 within which a reader sees one of them made is `completionAround` (R125, R140; log 19). -/
def completion (s : State) (c : Channel) (code : BitVec 10) : State :=
  let s := s.withMeasure { s.measure with latest := s.measure.latest.set c (some code) }
  let s := eitherOrder (fun s => (feeds c).foldl (fun s m => filterUpdate s code m) s)
    (fun s => judgeSources s (sourceBit c.castSucc.castSucc)) s
  s.withFresh (s.fresh + 1)

/-- The channel a spot check converts (R112). -/
def spotChannel : Channel := 3

/-- The time of a conversion, in microseconds (6.3). -/
def conversionMicros : Nat := 10

/-- A conversion of a channel begun now (R106). -/
def beginConversion (now : Moment) (c : Channel) : Sequencer := .converting c (now.later conversionMicros)

/-- The sequencer entering a resume point (R106): a step with 0 us left ends in the event that resumes it. -/
def resumeAt (now : Moment) : Option Resume → Sequencer
  | none => .idle
  | some (.starting left) => if left = 0 then beginConversion now 0 else .starting left
  | some (.converting c) => beginConversion now c
  | some (.gap c left) => if left = 0 then beginConversion now c else .gap c left

/-- A spot-check request taken by the sequencer (R112). -/
def requestSpot (now : Moment) : Sequencer → Sequencer
  | .idle => .spot (now.later conversionMicros) none
  | .starting left => .spot (now.later conversionMicros) (some (.starting left))
  | .converting c _ => .spot (now.later conversionMicros) (some (.converting c))
  | .gap c left => .spot (now.later conversionMicros) (some (.gap c left))
  | .spot due resume => .spot due resume

/-! ### Posture Monitor (R71 to R78) -/

/-- The place of an input in the Monitor's vectors. -/
def inputIndex : PostureInput → Fin 5
  | .lid => 0 | .dock => 1 | .contact => 2

/-- MOTION and ADP_PRES in the Monitor's vectors. -/
def motionIndex : Fin 5 := 3

/-- ADP_PRES in the Monitor's vectors. -/
def adapterIndex : Fin 5 := 4

/-- An edge of an input: its level is kept and its capture takes the count (R70, R71). -/
def keepEdge (s : State) (i : Fin 5) (level : Bool) : State :=
  s.withPosture { s.posture with
    levels := s.posture.levels.set i level
    captures := s.posture.captures.set i (some s.timebase.count) }

/-- The state with another settle. -/
def State.withSettle (s : State) (settle : Option Settle) : State := s.withPosture { s.posture with settle := settle }

/-- A posture change (R77, R78): the candidate becomes current, the capture is taken, the machine is STEADY; every subject is recomputed
and POSTURE is posted to every requester. -/
def changePosture (s : State) (candidate : Posture) : State :=
  postAll (recomputeAll (s.withPosture { s.posture with
    current := candidate
    settle := none
    lastChange := some (s.timebase.count, s.posture.current) })) .posture

/-- The settle timer of a settle running from now (R75): a duration of 0 ms expires in the event that starts it. Where edges fall at one
count, R79 says that the current posture is unchanged and gives one end state in every order, and R75 makes a raw posture passed through
current at its edge if its settle time is 0 ms: the model follows R75 there (DESIGN CHOICE, log 21). -/
def runSettle (s : State) (settle : Settle) : State :=
  if settle.duration = 0 then changePosture s settle.candidate
  else s.withSettle (some { settle with due := some (laterCount s.timebase.count settle.duration.toNat) })

/-- A new settle for a raw posture that differs from the current posture (R75): STRICT runs; LOOSE is held if MOTION is asserted. -/
def startSettle (s : State) (candidate : Posture) : State :=
  if stricter candidate s.posture.current then
    runSettle s { candidate := candidate, kind := .strict, duration := s.posture.strictTime, due := none }
  else if s.posture.levels[motionIndex] then
    s.withSettle (some { candidate := candidate, kind := .loose, duration := s.posture.looseTime, due := none })
  else runSettle s { candidate := candidate, kind := .loose, duration := s.posture.looseTime, due := none }

/-- The settle machine after an edge of LID, DOCK or CONTACT that found this raw posture before (R72, R74, R75). -/
def settleAfter (s : State) (rawBefore : Posture) : State :=
  let raw := rawPosture s.posture.levels
  if raw = rawBefore then s
  else if raw = s.posture.current then s.withSettle none
  else startSettle s raw

/-! ### Keyed records (R25, R26, R27, Table 2-3) -/

/-- The non-FREE slot that holds a key, with its record (R25). -/
def findKey (t : Table) (k : Key) : Option (SlotIx × Record) :=
  (List.finRange 48).findSome? fun i =>
    match t[i] with
    | some r => if r.owner = k.owner ∧ r.subject = k.subject ∧ r.tag = k.tag then some (i, r) else none
    | none => none

/-- The lowest FREE slot (R18). -/
def lowestFree (t : Table) : Option SlotIx := (List.finRange 48).find? fun i => t[i].isNone

/-- The slot and generation payload of CHANGE, RENEW and RETIRE (Table 2-2). -/
def slotAndGeneration (i : SlotIx) (r : Record) : List Byte := [slotByte i, r.generation]

/-- The checks of a keyed alteration after its first RANGE check, in the order of Table 2-3: NOT_FOUND, DENIED, RANGE on the record (RENEW
alone), RETIRING, STALE. Either the refusal or the record found. -/
def checkKeyed (t : Table) (issuer : Requester) (k : Key) (expected : Option Byte) (recordRange : Record → Bool) :
    Except Reply (SlotIx × Record) :=
  match findKey t k with
  | none => .error ⟨.notFound, []⟩
  | some (i, r) =>
    if !mayAlter issuer r then .error ⟨.denied, []⟩
    else if recordRange r then .error ⟨.range, []⟩
    else if r.state = .retiring then .error ⟨.retiring, []⟩
    else if expected.isSome ∧ expected ≠ some r.generation then .error ⟨.stale, slotAndGeneration i r⟩
    else .ok (i, r)

/-- The status of an accepted alteration of a record: STAGED while it waits for a commit, else OK (R24). -/
def statusOf (r : Record) : Status := if waits r then .staged else .ok

/-- A record written back to its slot by an accepted command, with OVERRIDDEN to an owner that requester 0 overrides (R28). -/
def writeRecord (s : State) (issuer : Requester) (i : SlotIx) (r : Record) : State :=
  let s := s.withTable (s.table.set i (some r))
  if overrides issuer r.owner then post s r.owner (.overridden i) else s

/-- A record made RETIRING (R15): its lease and its pending parts are removed and its generation advances. -/
def retired (r : Record) : Record :=
  { r with state := .retiring, lease := none, pendingBound := none, pendingMask := none, generation := r.generation + 1 }

/-- The slots whose record satisfies a test, in ascending order, with their records. -/
def slotsWhere (t : Table) (test : Record → Bool) : List (SlotIx × Record) :=
  (List.finRange 48).filterMap fun i =>
    match t[i] with
    | some r => if test r then some (i, r) else none
    | none => none

/-- The table with every record rewritten; a record rewritten to none leaves its slot FREE. -/
def rewrite (t : Table) (f : Record → Option Record) : Table := Vector.ofFn fun i : SlotIx => t[i].bind f

/-- The subjects of some records, ascending, once each (R20). -/
def subjectsOf (records : List (SlotIx × Record)) : List Subject :=
  (List.finRange 10).filter fun sub => records.any fun p => p.2.subject == sub

end Sys2Proof.Machine
end

