-- ==== Sys2Proof/Machine/Clock.lean ====
section
/-! DEFINITION. The Timebase's tick (R52), which step takes on an empty queue (log 1): one microsecond passes, the times left and the age of an
execution move with it, and the events that have come due enter the queue in an order the manual leaves open (log 2). -/

namespace Sys2Proof.Machine

/-- The row of a command's completion. -/
def completionRow : Command → Instr
  | .place _ => .place | .change _ => .change | .renew _ => .renew | .retire _ => .retire | .sweep _ _ => .sweep
  | .lookup _ => .lookup | .readSlot _ => .readSlot | .list _ => .list | .readResolved _ => .readResolved
  | .readPosture => .readPosture | .readMeasure => .readMeasure | .readGovernor => .readGovernor | .readTrip => .readTrip
  | .readNotices => .readNotices | .setNoticeEnable _ => .setNoticeEnable | .clearNotices _ => .clearNotices
  | .readProfile => .readProfile | .readSettings _ _ => .readSettings | .resume => .resume | .softReset => .softReset
  | .setScan _ => .setScan | .setSense _ _ _ => .setSense | .setCommit _ _ => .setCommit | .setGovern _ => .setGovern
  | .setRoute _ _ _ => .setRoute | .setOutput _ => .setOutput | .setTrip _ => .setTrip | .setPosture _ _ _ => .setPosture

/-- A sequencer state one microsecond on: STARTING and GAP lose a microsecond of their time left (Table 6-2). -/
def passMicro : Sequencer → Sequencer
  | .idle => .idle
  | .starting left => .starting (left - 1)
  | .converting c due => .converting c due
  | .gap c left => .gap c (left - 1)
  | .spot due resume => .spot due resume

/-- The part one microsecond on (R52): nothing but elapsed time changes. -/
def advance (s : State) : State :=
  { s with
    timebase := s.timebase.later 1
    measure := { s.measure with sequencer := passMicro s.measure.sequencer }
    link := { s.link with execution := s.link.execution.map fun e => { e with age := e.age + 1 } } }

/-- The millisecond timers due at this count (R53). -/
def dueTimers (s : State) : List Instr :=
  ((List.finRange 10).filter fun sub => s.commitTimers[sub].nextExpiry == s.timebase.count).map .commitTimerExpiry
  ++ (if s.leaseClock = s.timebase.count then [.leaseTick] else [])
  ++ (match s.posture.settle with
      | some settle => if settle.due = some s.timebase.count then [.settleTimerExpiry] else []
      | none => [])
  ++ (if s.trip.stopTimer = some s.timebase.count then [.stopTimerExpiry] else [])

/-- The sequencer's event due at this moment (R106); the code of a conversion is free (log 6). -/
def dueStep (s : State) : List Instr :=
  match s.measure.sequencer with
  | .idle => []
  | .starting left => if left = 0 then [.startStepEnd] else []
  | .gap _ left => if left = 0 then [.gapEnd] else []
  | .converting _ due => if due = s.timebase then [.conversionCompletion (Config.converterCode s.fresh)] else []
  | .spot due _ => if due = s.timebase then [.spotCompletion (Config.converterCode s.fresh)] else []

/-- The completion of the command in execution (R169): at the latest 40 us after the rising of SEL, and before that at a moment left open
(log 5). -/
def dueCompletion (s : State) : List Instr :=
  match s.link.execution with
  | none => []
  | some e =>
    if Config.maxExecutionMicros ≤ e.age then [completionRow e.command]
    else if Config.completesNow s.fresh then [completionRow e.command] else []

/-- Every event due at this moment. -/
def dueEvents (s : State) : List Instr :=
  dueTimers s
  ++ (if s.measure.scan.next = s.timebase then [.scanTimerExpiry] else [])
  ++ dueStep s
  ++ ((List.finRange 4).filter fun ix => s.outputs[ix].nextEnd == s.timebase).map .periodEnd
  ++ dueCompletion s

/-- The tick: a microsecond passes and the events now due enter the queue. -/
def tick (s : State) : State :=
  let s := advance s
  let due := dueEvents s
  { s with pending := s.pending ++ arrange due.length s.fresh due, fresh := s.fresh + due.length + 1 }

end Sys2Proof.Machine
end

