-- ==== Sys2Proof/Machine/Commits.lean ====
section
/-! DEFINITION. Commit timers, commits and the lease clock (chapter 3): SET COMMIT, the expiry of a commit timer, the lease tick. -/

namespace Sys2Proof.Machine

/-! ### SET COMMIT (R56) -/

/-- A commit timer after an accepted SET COMMIT (R56). -/
def stageExponent (n : Fin 8) (t : CommitTimer) : CommitTimer :=
  { t with staged := if n = t.exponent then none else some n }

/-- The claim of a SET COMMIT (R56). -/
def setCommitClaim (subject exponent : Byte) (s : State) : State × Reply :=
  match below 10 subject, below 8 exponent with
  | some sub, some n => accept (s.withCommitTimers (s.commitTimers.set sub (stageExponent n s.commitTimers[sub])))
  | _, _ => refuse s .range

/-- SET COMMIT (R56). -/
def execSetCommit (s : State) : Host.Outcome State Fault Refusal :=
  match s.taken with
  | some (_, .setCommit subject exponent) => answer (setCommitClaim subject exponent s)
  | _ => noEvent s

/-! ### The commit (R55, R58, R59) -/

/-- Whether the commit of a subject frees a record or takes a pending part of it into force (R58). -/
def committedBy (sub : Subject) (r : Record) : Bool := r.subject == sub && waits r

/-- A record after the commit of a subject (R58); none when its slot is freed. -/
def committed (sub : Subject) (r : Record) : Option Record :=
  if committedBy sub r then
    match r.state with
    | .retiring => none
    | .live =>
      some { r with bound := r.pendingBound.getD r.bound, mask := r.pendingMask.getD r.mask, pendingBound := none, pendingMask := none,
                    generation := r.generation + 1 }
  else some r

/-- The commit of a subject (R58, R59): its records, COMMITTED to their owners in slot order, and one recompute when it did anything. -/
def commit (s : State) (sub : Subject) : State :=
  let treated := slotsWhere s.table (committedBy sub)
  let s := s.withTable (rewrite s.table (committed sub))
  let s := postList s (treated.map fun p => (p.2.owner, .committed p.1))
  if treated.isEmpty then s else recompute s sub

/-- A commit timer after its expiry (R55): a staged exponent is taken up, and the next expiry falls one interval now in force later. -/
def reschedule (t : CommitTimer) : CommitTimer :=
  let n := t.staged.getD t.exponent
  { exponent := n, staged := none, nextExpiry := t.nextExpiry + Default.commitInterval n }

/-- COMMIT_TIMER_EXPIRY (R55): when the count stands at the next expiry of the subject; otherwise the timer does not expire (R53). -/
def execCommitTimerExpiry (sub : Subject) (s : State) : Host.Outcome State Fault Refusal :=
  if s.commitTimers[sub].nextExpiry = s.timebase.count then
    let s := commit s sub
    .next (s.withCommitTimers (s.commitTimers.set sub (reschedule s.commitTimers[sub])))
  else noEvent s

/-! ### The lease clock (R61, R62) -/

/-- Whether a tick expires a record (R62): LIVE with a lease that would reach 0. -/
def expiredByTick (r : Record) : Bool :=
  r.state == .live &&
    match r.lease with
    | none => false
    | some left => decide (left ≤ 1)

/-- A record after a tick (R62). -/
def ticked (r : Record) : Record :=
  if expiredByTick r then retired r
  else
    match r.state with
    | .live => { r with lease := r.lease.map (· - 1) }
    | .retiring => r

/-- The interval of the lease clock, in milliseconds (R61). -/
def leaseInterval : Nat := 1000

/-- The records after a tick, EXPIRED to the owners of those it expires in slot order, and a recompute of their subjects (R62). -/
def tickLeases (s : State) : State :=
  let expired := slotsWhere s.table expiredByTick
  let s := s.withTable (rewrite s.table fun r => some (ticked r))
  let s := postList s (expired.map fun p => (p.2.owner, .expired p.1))
  recomputeList s (subjectsOf expired)

/-- LEASE_TICK (R61, R62): when the count stands at the next tick; otherwise there is none (R53). -/
def execLeaseTick (s : State) : Host.Outcome State Fault Refusal :=
  if s.leaseClock = s.timebase.count then
    let s := tickLeases s
    .next (s.withLeaseClock (laterCount s.leaseClock leaseInterval))
  else noEvent s

end Sys2Proof.Machine
end

