-- ==== Sys2Proof/Machine/Govern.lean ====
section
/-! DEFINITION. The Governor's commands (chapter 7): SET GOVERN, SET ROUTE, READ GOVERNOR. Its evaluations are part of the completions. -/

namespace Sys2Proof.Machine

/-- A measured subject after an accepted SET GOVERN (R131, R132): a saturation time different from the one in force ends the run, unless
the one in force is 0. -/
def governedBy (f : GovernFields) (g : Governed) : Governed :=
  let ends := f.saturationTime ≠ g.saturationTime ∧ g.saturationTime ≠ 0
  { g with
    hysteresis := f.hysteresis
    riseHold := f.riseHold
    fallHold := f.fallHold
    saturationTime := f.saturationTime
    runStart := if ends then none else g.runStart
    saturated := if ends then false else g.saturated }

/-- The claim of a SET GOVERN (R131, R132); a saturated flag that the command clears is handed to the Trip Unit (R127). Every byte of units
of 16 ms is an acceptable saturation time. -/
def setGovernClaim (f : GovernFields) (s : State) : State × Reply :=
  match below 9 f.subject with
  | none => refuse s .range
  | some m =>
    if f.riseHold = 0 ∨ f.fallHold = 0 then refuse s .range
    else
      let g := s.governor.subjects[m]
      let g' := governedBy f g
      let s := s.withGovernor { s.governor with subjects := s.governor.subjects.set m g' }
      accept (if g'.saturated ≠ g.saturated then handSaturated s else s)

/-- SET GOVERN (R131). -/
def execSetGovern (s : State) : Host.Outcome State Fault Refusal :=
  match s.taken with
  | some (_, .setGovern f) => answer (setGovernClaim f s)
  | _ => noEvent s

/-- The claim of a SET ROUTE (R133): one entry is written and the named actuator's target is recomputed. -/
def setRouteClaim (subject actuator entry : Byte) (s : State) : State × Reply :=
  match below 9 subject, below 4 actuator, routeOf entry with
  | some m, some a, some route =>
    accept (recomputeTarget
      (s.withGovernor { s.governor with routes := s.governor.routes.set m (s.governor.routes[m].set a route) }) a)
  | _, _, _ => refuse s .range

/-- SET ROUTE (R133). -/
def execSetRoute (s : State) : Host.Outcome State Fault Refusal :=
  match s.taken with
  | some (_, .setRoute subject actuator entry) => answer (setRouteClaim subject actuator entry s)
  | _ => noEvent s

/-- The claim of a READ GOVERNOR (R134): the Governor as it stands when the response is built. -/
def readGovernorClaim (s : State) : State × Reply := (s, ⟨.ok, governorPayload s.governor⟩)

/-- READ GOVERNOR (R134). -/
def execReadGovernor (s : State) : Host.Outcome State Fault Refusal :=
  match s.taken with
  | some (_, .readGovernor) => answer (readGovernorClaim s)
  | _ => noEvent s

end Sys2Proof.Machine
end

