-- ==== Sys2Proof/Machine/Link.lean ====
section
/-! DEFINITION. The Limit Link (chapter 10): the three frames, the notice commands, READ PROFILE and READ SETTINGS. -/

namespace Sys2Proof.Machine

/-! ### Frames (R166, R168, R170, R171) -/

/-- The state after a frame, with the bits SDO carried in it (log 9). -/
def State.withSdo (s : State) (bits : List Bool) : State := s.withLink { s.link with sdo := bits }

/-- SDO low through a frame (R166). The rule says so of the header byte and of a COMMAND frame; that it holds through the rest of a frame whose
header is no frame type, and of a frame that makes none, is the model's choice (DESIGN CHOICE, log 22). -/
def sdoLow (s : State) (sdi : List Bool) : State := s.withSdo (List.replicate sdi.length false)

/-- A COMMAND frame, or one whose header is no frame type, that ends while IDLE (R168): an error response is placed, or the command is
taken and its execution begins with the dropped flag clear. -/
def takeFrame (s : State) (header : Byte) (rest : List Byte) : State :=
  match judgeFrame header rest with
  | .refuse r status => placeResponse s r false ⟨status, []⟩
  | .take r c => s.withLink { s.link with execution := some { requester := r, command := c, dropped := false, age := 0 } }

/-- A frame not taken (R170): the dropped flag is set while EXECUTING; once the completion has been taken no flag is set. -/
def dropFrame (s : State) : State :=
  match s.link.execution with
  | none => s
  | some e => s.withLink { s.link with execution := some { e with dropped := true } }

/-- A NOT_READY or EMPTY answer (R171): the status, no flags, the requester of the header, an empty notice set and no payload. -/
def bareAnswer (status : Status) (r : Requester) : Response := ⟨status, false, false, r, 0, []⟩

/-- The answer of a FETCH frame (R171). -/
def fetchAnswer (l : LinkPort) (r : Requester) : Response :=
  match l.execution, l.slot with
  | some _, _ => bareAnswer .notReady r
  | none, none => bareAnswer .empty r
  | none, some held => held.response

/-- The slot after a FETCH frame of so many bits (R171): its response is fetched when IDLE and the whole of it has been clocked. -/
def fetchedSlot (l : LinkPort) (bits : Nat) : Option HeldResponse :=
  match l.execution, l.slot with
  | none, some held =>
    if 8 + 8 * (responseBytes held.response).length ≤ bits then some { held with fetched := true } else some held
  | _, slot => slot

/-- A FETCH frame (R171): the answer is shifted out after the header, and a response clocked whole is fetched. -/
def fetchFrame (s : State) (header : Byte) (bits : Nat) : State :=
  s.withLink { s.link with
    slot := fetchedSlot s.link bits
    sdo := shiftedOut bits (responseBytes (fetchAnswer s.link (headerRequester header))) }

/-- A frame that ends, by its header and the Link Port's state (R166, R168, R170, R171); `onOther` is what a frame that is not a FETCH frame
does while IDLE. A frame with no whole byte has no effect, and the frame that SEL held open when full reset ended makes no frame (log 10). SDO is
low through a frame whose header is no frame type (DESIGN CHOICE, log 22). -/
def endFrame (s : State) (sdi : List Bool) (onOther : State → Byte → List Byte → State) : State :=
  if s.link.voidFrame then sdoLow (s.withLink { s.link with voidFrame := false }) sdi
  else
    match wholeBytes sdi with
    | [] => s
    | header :: rest =>
      if frameType header = .fetch then fetchFrame s header sdi.length
      else
        let s := sdoLow s sdi
        if s.link.execution.isSome then dropFrame s else onOther s header rest

/-- COMMAND_FRAME (R168): the rising of SEL that ends it. While EXECUTING it is a frame not taken (R170; log 11). -/
def execCommandFrame (sdi : List Bool) (s : State) : Host.Outcome State Fault Refusal := .next (endFrame s sdi takeFrame)

/-- FRAME_DURING_EXECUTION (R170): a frame whose SEL fell while EXECUTING. The row stands at the moment its header byte is whole: while still
EXECUTING it sets the dropped flag, after the completion it sets no flag and places no response. Where SEL falls at the moment of the
completion and is taken first, R170's last paragraph has the response carry DROPPED though the header byte is whole only later; the row then
stands at the falling of SEL, before the completion's row (DESIGN CHOICE, log 23). -/
def execFrameDuringExecution (sdi : List Bool) (s : State) : Host.Outcome State Fault Refusal :=
  .next (endFrame s sdi fun s _ _ => s)

/-- FETCH_FRAME (R171). A header of another type makes it the frame that header names (log 11). -/
def execFetchFrame (sdi : List Bool) (s : State) : Host.Outcome State Fault Refusal := .next (endFrame s sdi takeFrame)

/-! ### Notice commands (R173) -/

/-- READ NOTICES (R173): the reported set as it stood before this response reports. -/
def execReadNotices (s : State) : Host.Outcome State Fault Refusal :=
  match s.taken with
  | some (issuer, .readNotices) => answer (s, ⟨.ok, noticesPayload s.link.notices[issuer]⟩)
  | _ => noEvent s

/-- The claim of a SET NOTICE ENABLE (R173). -/
def setNoticeEnableClaim (issuer : Requester) (kinds : Byte) (s : State) : State × Reply :=
  match noticeSetOf kinds with
  | none => refuse s .range
  | some set => accept (s.withNotices (s.link.notices.set issuer { s.link.notices[issuer] with enable := set }))

/-- SET NOTICE ENABLE (R173). -/
def execSetNoticeEnable (s : State) : Host.Outcome State Fault Refusal :=
  match s.taken with
  | some (issuer, .setNoticeEnable kinds) => answer (setNoticeEnableClaim issuer kinds s)
  | _ => noEvent s

/-- A notice state after CLEAR NOTICES (R173): the kinds named that are reported leave the pending and the reported set. -/
def cleared (set : NoticeSet) (n : NoticeState) : NoticeState :=
  { n with pending := n.pending &&& ~~~(set &&& n.reported), reported := n.reported &&& ~~~set }

/-- The claim of a CLEAR NOTICES (R173). -/
def clearNoticesClaim (issuer : Requester) (kinds : Byte) (s : State) : State × Reply :=
  match noticeSetOf kinds with
  | none => refuse s .range
  | some set => accept (s.withNotices (s.link.notices.set issuer (cleared set s.link.notices[issuer])))

/-- CLEAR NOTICES (R173). -/
def execClearNotices (s : State) : Host.Outcome State Fault Refusal :=
  match s.taken with
  | some (issuer, .clearNotices kinds) => answer (clearNoticesClaim issuer kinds s)
  | _ => noEvent s

/-! ### Identity and settings (R176) -/

/-- READ PROFILE (R176). -/
def execReadProfile (s : State) : Host.Outcome State Fault Refusal :=
  match s.taken with
  | some (_, .readProfile) => answer (s, ⟨.ok, profilePayload s.profile⟩)
  | _ => noEvent s

/-- The claim of a READ SETTINGS (R176). -/
def readSettingsClaim (block index : Byte) (s : State) : State × Reply :=
  match settingsPayload s block index with
  | none => refuse s .range
  | some payload => (s, ⟨.ok, payload⟩)

/-- READ SETTINGS (R176). -/
def execReadSettings (s : State) : Host.Outcome State Fault Refusal :=
  match s.taken with
  | some (_, .readSettings block index) => answer (readSettingsClaim block index s)
  | _ => noEvent s

end Sys2Proof.Machine
end

