-- ==== Sys2Proof/Machine/OutputStage.lean ====
section
/-! DEFINITION. The Output Stage (chapter 8): the end of a PWM period and SET OUTPUT. -/

namespace Sys2Proof.Machine

/-- An output after its period end, at the target of its actuator (R138, R140, R142, R143): a staged period is taken up, the next end is one
period in force later, and a TRACKING or RELEASING output takes the target and tracks. -/
def endPeriod (target : Level) (o : Output) : Output :=
  let period := o.staged.getD o.period
  let o := { o with period := period, staged := none, nextEnd := o.nextEnd.later (periodMicros period) }
  match o.state with
  | .forced => o
  | .tracking | .releasing => { o with applied := target, state := .tracking }

/-- The period end of an output taken (R138, R140): the target it takes is the one that stands in the Governor at that moment. -/
def takePeriodEnd (s : State) (ix : OutputIx) : State :=
  s.withOutputs (s.outputs.set ix (endPeriod s.governor.targets[ix] s.outputs[ix]))

/-- PERIOD_END (R138): when the Timebase stands at the output's next period end. -/
def execPeriodEnd (ix : OutputIx) (s : State) : Host.Outcome State Fault Refusal :=
  if s.outputs[ix].nextEnd = s.timebase then
    .next (takePeriodEnd s ix)
  else noEvent s

/-- An output after an accepted SET OUTPUT (R146): the period is staged, the other settings are in force, and the force condition is judged
afresh from the Trip Unit's sets. -/
def outputSet (t : TripUnit) (f : OutputSettings) (o : Output) : Output :=
  judgeOutput t.active t.latched
    { o with
      staged := if f.period = o.period then none else some f.period
      cutoff := f.cutoff
      mask := f.mask
      restart := f.restart }

/-- The claim of a SET OUTPUT (R145, R146). -/
def setOutputClaim (f : OutputFields) (s : State) : State × Reply :=
  match outputSettingsOf f with
  | none => refuse s .range
  | some x => accept (s.withOutputs (s.outputs.set x.output (outputSet s.trip x s.outputs[x.output])))

/-- SET OUTPUT (R145). -/
def execSetOutput (s : State) : Host.Outcome State Fault Refusal :=
  match s.taken with
  | some (_, .setOutput f) => answer (setOutputClaim f s)
  | _ => noEvent s

end Sys2Proof.Machine
end

