-- ==== Sys2Proof/Machine/Measure.lean ====
section
/-! DEFINITION. The Resolver's read (chapter 5) and the Measurement Unit (chapter 6): READ RESOLVED, the scan timer, the scan sequencer's
steps, conversion completions, SET SCAN, SET SENSE and READ MEASURE. -/

namespace Sys2Proof.Machine

/-- The claim of a READ RESOLVED (R100). -/
def readResolvedClaim (subject : Byte) (s : State) : State × Reply :=
  match selectorOf subject with
  | none => refuse s .range
  | some selector => (s, ⟨.ok, resolvedPayload s.resolver selector⟩)

/-- READ RESOLVED (R100). -/
def execReadResolved (s : State) : Host.Outcome State Fault Refusal :=
  match s.taken with
  | some (_, .readResolved subject) => answer (readResolvedClaim subject s)
  | _ => noEvent s

/-! ### The scan timer (R103, R107) -/

/-- The start step of a scan (6.3). -/
def startMicros : Nat := 2

/-- The gap between two conversions (6.3). -/
def gapMicros : Nat := 1

/-- An expiry of the scan timer offered to the sequencer (R107). -/
def offerScan : Sequencer → Sequencer
  | .idle => .starting startMicros
  | .spot due none => .spot due (some (.starting startMicros))
  | .spot due (some resume) => .spot due (some resume)
  | .starting left => .starting left
  | .converting c due => .converting c due
  | .gap c left => .gap c left

/-- The scan timer after its expiry (R103): a staged period is taken up, and the next expiry falls one period in force later. -/
def rescheduleScan (t : ScanTimer) : ScanTimer :=
  let period := t.staged.getD t.period
  { period := period, staged := none, next := t.next.later (scanMicros period) }

/-- SCAN_TIMER_EXPIRY (R103): when the Timebase stands at the next expiry; otherwise the timer does not expire. -/
def execScanTimerExpiry (s : State) : Host.Outcome State Fault Refusal :=
  if s.measure.scan.next = s.timebase then
    .next (s.withMeasure { s.measure with
      scan := rescheduleScan s.measure.scan
      sequencer := offerScan s.measure.sequencer })
  else noEvent s

/-! ### The sequencer's steps (R106) -/

/-- START_STEP_END (R106): when the start step has no time left. -/
def execStartStepEnd (s : State) : Host.Outcome State Fault Refusal :=
  match s.measure.sequencer with
  | .starting 0 => .next (s.withSequencer (beginConversion s.timebase 0))
  | _ => noEvent s

/-- GAP_END (R106): when the gap has no time left. -/
def execGapEnd (s : State) : Host.Outcome State Fault Refusal :=
  match s.measure.sequencer with
  | .gap c 0 => .next (s.withSequencer (beginConversion s.timebase c))
  | _ => noEvent s

/-- The step after the scan conversion of a channel (R106): the gap before the next channel, or IDLE after CH8. -/
def afterConversion (c : Channel) : Sequencer :=
  if h : c.val + 1 < 9 then .gap ⟨c.val + 1, h⟩ gapMicros else .idle

/-- The readers of the targets that stand at this moment and are taken within a CH0 completion (R125): the outputs whose period ends now
and the READ GOVERNOR in execution, each where the free value says so (log 19). -/
def readersWithin (s : State) : List CompletionPart :=
  ((List.finRange 4).filter fun ix => s.outputs[ix].nextEnd == s.timebase && Config.readsWithin s.fresh ix.val).map .periodEnd
  ++ (match s.taken with
      | some (_, .readGovernor) => if Config.readsWithin s.fresh 4 then [.readGovernor] else []
      | _ => [])

/-- One part of a CH0 completion (R101, R125). -/
def takePart (code : BitVec 10) (s : State) : CompletionPart → State
  | .evaluation m => filterUpdate s code m
  | .judgement => judgeSources s (sourceBit 0)
  | .periodEnd ix => takePeriodEnd s ix
  | .readGovernor => respond (readGovernorClaim s)

/-- A CH0 completion into which readers of the targets fall (R125). R101 takes a completion whole, and R125 lets a reader stand between its
two evaluations: that the reader is taken in this one event, and the evaluations, the judgement and the readers in any order, is the
model's choice (DESIGN CHOICE, log 19). A reader taken here has no event of its own left at this moment (log 3). -/
def completionAround (s : State) (code : BitVec 10) (readers : List CompletionPart) : State :=
  let parts := [.evaluation 0, .evaluation 1, .judgement] ++ readers
  ((arrange parts.length s.fresh parts).foldl (takePart code) (s.withMeasure { s.measure with
    latest := s.measure.latest.set 0 (some code) })).withFresh (s.fresh + parts.length)

/-- The completion of a scan conversion (R101): for CH0, with the readers of the targets that fall within it (R125, R140; log 19). -/
def scanCompletion (s : State) (c : Channel) (code : BitVec 10) : State :=
  if c = 0 ∧ readersWithin s ≠ [] then completionAround s code (readersWithin s) else completion s c code

/-- CONVERSION_COMPLETION (R101, R106): when a scan conversion is due at this moment. -/
def execConversionCompletion (code : BitVec 10) (s : State) : Host.Outcome State Fault Refusal :=
  match s.measure.sequencer with
  | .converting c due =>
    if due = s.timebase then .next ((scanCompletion s c code).withSequencer (afterConversion c)) else noEvent s
  | _ => noEvent s

/-- SPOT_COMPLETION (R106, R112): when the spot conversion is due at this moment; it completes as a conversion of CH3, and the sequencer
enters its resume point. -/
def execSpotCompletion (code : BitVec 10) (s : State) : Host.Outcome State Fault Refusal :=
  match s.measure.sequencer with
  | .spot due resume =>
    if due = s.timebase then .next ((completion s spotChannel code).withSequencer (resumeAt s.timebase resume)) else noEvent s
  | _ => noEvent s

/-! ### Settings and read (R104, R111, R117) -/

/-- The claim of a SET SCAN (R104): it acts on the staged period alone. -/
def setScanClaim (period : Byte) (s : State) : State × Reply :=
  match scanPeriodOf period with
  | none => refuse s .range
  | some p =>
    accept (s.withMeasure { s.measure with
      scan := { s.measure.scan with staged := if p = s.measure.scan.period then none else some p } })

/-- SET SCAN (R104). -/
def execSetScan (s : State) : Host.Outcome State Fault Refusal :=
  match s.taken with
  | some (_, .setScan period) => answer (setScanClaim period s)
  | _ => noEvent s

/-- The claim of a SET SENSE (R111). -/
def setSenseClaim (subject gain shift : Byte) (s : State) : State × Reply :=
  match below 9 subject, below 13 shift with
  | some m, some k =>
    accept (s.withMeasure { s.measure with gains := s.measure.gains.set m gain, shifts := s.measure.shifts.set m k })
  | _, _ => refuse s .range

/-- SET SENSE (R111). -/
def execSetSense (s : State) : Host.Outcome State Fault Refusal :=
  match s.taken with
  | some (_, .setSense subject gain shift) => answer (setSenseClaim subject gain shift s)
  | _ => noEvent s

/-- READ MEASURE (R117). -/
def execReadMeasure (s : State) : Host.Outcome State Fault Refusal :=
  match s.taken with
  | some (_, .readMeasure) => answer (s, ⟨.ok, measurePayload s.measure⟩)
  | _ => noEvent s

end Sys2Proof.Machine
end

