-- ==== Sys2Proof/Machine/PostureMonitor.lean ====
section
/-! DEFINITION. The Posture Monitor (chapter 4): its input edges, the settle timer, SET POSTURE and READ POSTURE. -/

namespace Sys2Proof.Machine

/-- POSTURE_INPUT_EDGE (R70, R72): an edge is a change of the kept level; it keeps the level, takes the capture and re-derives the raw
posture, on which the settle machine acts. -/
def execPostureInputEdge (input : PostureInput) (level : Bool) (s : State) : Host.Outcome State Fault Refusal :=
  if s.posture.levels[inputIndex input] = level then noEvent s
  else .next (settleAfter (keepEdge s (inputIndex input) level) (rawPosture s.posture.levels))

/-- A settle held by MOTION, or restarted at its full duration when MOTION is deasserted (R76). A STRICT settle is not reached. -/
def settleOnMotion (s : State) (asserted : Bool) : State :=
  match s.posture.settle with
  | some settle =>
    if settle.kind = .loose then
      if asserted then s.withSettle (some { settle with due := none })
      else if settle.due.isNone then runSettle s settle else s
    else s
  | none => s

/-- MOTION_EDGE (R76). -/
def execMotionEdge (asserted : Bool) (s : State) : Host.Outcome State Fault Refusal :=
  if s.posture.levels[motionIndex] = asserted then noEvent s
  else .next (settleOnMotion (keepEdge s motionIndex asserted) asserted)

/-- ADP_PRES_EDGE (R71): a falling edge is handed to the Measurement Unit as a spot-check request (R112). -/
def execAdpPresEdge (present : Bool) (s : State) : Host.Outcome State Fault Refusal :=
  if s.posture.levels[adapterIndex] = present then noEvent s
  else
    let s := keepEdge s adapterIndex present
    .next (if present then s else s.withSequencer (requestSpot s.timebase s.measure.sequencer))

/-- SETTLE_TIMER_EXPIRY (R77): when a running settle is due at this count; otherwise no timer expires (R53). -/
def execSettleTimerExpiry (s : State) : Host.Outcome State Fault Refusal :=
  match s.posture.settle with
  | some settle => if settle.due = some s.timebase.count then .next (changePosture s settle.candidate) else noEvent s
  | none => noEvent s

/-- The claim of a SET POSTURE (R83): both times are checked before either changes; each present one becomes the setting in force. -/
def setPostureClaim (flags : Byte) (strict loose : Half) (s : State) : State × Reply :=
  let strictPresent := flags.getLsbD 0
  let loosePresent := flags.getLsbD 1
  if flags.toNat < 4 ∧ settleTimeAccepted strictPresent 2550 10 strict ∧ settleTimeAccepted loosePresent 25500 100 loose then
    accept (s.withPosture { s.posture with
      strictTime := if strictPresent then strict else s.posture.strictTime
      looseTime := if loosePresent then loose else s.posture.looseTime })
  else refuse s .range

/-- SET POSTURE (R83). -/
def execSetPosture (s : State) : Host.Outcome State Fault Refusal :=
  match s.taken with
  | some (_, .setPosture flags strict loose) => answer (setPostureClaim flags strict loose s)
  | _ => noEvent s

/-- READ POSTURE (R85). -/
def execReadPosture (s : State) : Host.Outcome State Fault Refusal :=
  match s.taken with
  | some (_, .readPosture) => answer (s, ⟨.ok, posturePayload s.timebase.count s.posture⟩)
  | _ => noEvent s

end Sys2Proof.Machine
end

