-- ==== Sys2Proof/Machine/Records.lean ====
section
/-! DEFINITION. The eight table commands (chapter 2): PLACE, CHANGE, RENEW, RETIRE, SWEEP, LOOKUP, READ SLOT, LIST. Each row is the
completion of the taken command of its kind (R169); with no such command in execution there is no completion (log 3, log 4). -/

namespace Sys2Proof.Machine

/-! ### PLACE (R30 to R32) -/

/-- The claim of a PLACE: DENIED, RANGE, DUPLICATE, QUOTA, FULL, then the record in the lowest FREE slot and a recompute of its subject. -/
def placeClaim (issuer : Requester) (f : PlaceFields) (s : State) : State × Reply :=
  if f.cls = 1 ∧ issuer ≠ 0 then refuse s .denied
  else
    match placedRecord issuer f with
    | none => refuse s .range
    | some r =>
      match findKey s.table ⟨issuer, r.subject, r.tag⟩ with
      | some (i, _) => (s, ⟨.duplicate, [slotByte i]⟩)
      | none =>
        if issuer ≠ 0 ∧ quota ≤ owned s.table issuer then refuse s .quota
        else
          match lowestFree s.table with
          | none => refuse s .full
          | some i => (recompute (s.withTable (s.table.set i (some r))) r.subject, ⟨.ok, [slotByte i]⟩)

/-- PLACE (R32). -/
def execPlace (s : State) : Host.Outcome State Fault Refusal :=
  match s.taken with
  | some (issuer, .place f) => answer (placeClaim issuer f s)
  | _ => noEvent s

/-! ### CHANGE (R33 to R38) -/

/-- The bound part of a CHANGE (R34). -/
def changeBound (new : Half) (r : Record) : Record :=
  if new.toNat < r.bound.toNat then { r with bound := new, pendingBound := none }
  else if new = r.bound then { r with pendingBound := none }
  else { r with pendingBound := some new }

/-- The mask part of a CHANGE (R35). -/
def changeMask (new : Mask) (r : Record) : Record :=
  if new &&& r.mask = r.mask then { r with mask := new, pendingMask := none }
  else { r with mask := r.mask ||| new, pendingMask := some new }

/-- A record after an accepted CHANGE: both parts, judged against the values in force, and the generation advanced when one of the four
fields differs (R36). -/
def changed (bound : Half) (mask : Mask) (r : Record) : Record :=
  let r' := changeMask mask (changeBound bound r)
  if differs r r' then { r' with generation := r.generation + 1 } else r'

/-- The claim of a CHANGE (R33): RANGE, NOT_FOUND, DENIED, RETIRING, STALE, then both parts; a recompute when an in-force value differs
(R37). -/
def changeClaim (issuer : Requester) (f : ChangeFields) (s : State) : State × Reply :=
  match keyOf f.key, maskOf f.mask, expectOf f.expect with
  | some k, some mask, some expected =>
    if boundInRange k.subject f.bound then
      match checkKeyed s.table issuer k expected (fun _ => false) with
      | .error reply => (s, reply)
      | .ok (i, r) =>
        let r' := changed f.bound mask r
        let s' := writeRecord s issuer i r'
        (if differsInForce r r' then recompute s' r.subject else s', ⟨statusOf r', slotAndGeneration i r'⟩)
    else refuse s .range
  | _, _, _ => refuse s .range

/-- CHANGE (R33). -/
def execChange (s : State) : Host.Outcome State Fault Refusal :=
  match s.taken with
  | some (issuer, .change f) => answer (changeClaim issuer f s)
  | _ => noEvent s

/-! ### RENEW (R39, R40) -/

/-- A record after an accepted RENEW (R40). -/
def renewed (lease : Half) (r : Record) : Record :=
  { r with lease := if lease = 0 then none else some lease.toNat, generation := r.generation + 1 }

/-- The RANGE check of RENEW on the record (R39, check 4). -/
def renewOutOfRange (lease : Half) (r : Record) : Bool :=
  r.cls == .anchored || (lease == 0 && r.owner != 0)

/-- The claim of a RENEW (R39): RANGE on the fields, NOT_FOUND, DENIED, RANGE on the record, RETIRING, STALE, then the lease. -/
def renewClaim (issuer : Requester) (f : RenewFields) (s : State) : State × Reply :=
  match keyOf f.key, expectOf f.expect with
  | some k, some expected =>
    if f.lease.toNat ≤ maxLease ∧ ¬(f.lease = 0 ∧ issuer ≠ 0) then
      match checkKeyed s.table issuer k expected (renewOutOfRange f.lease) with
      | .error reply => (s, reply)
      | .ok (i, r) =>
        let r' := renewed f.lease r
        (writeRecord s issuer i r', ⟨statusOf r', slotAndGeneration i r'⟩)
    else refuse s .range
  | _, _ => refuse s .range

/-- RENEW (R39). -/
def execRenew (s : State) : Host.Outcome State Fault Refusal :=
  match s.taken with
  | some (issuer, .renew f) => answer (renewClaim issuer f s)
  | _ => noEvent s

/-! ### RETIRE (R41, R42) -/

/-- The claim of a RETIRE (R41): RANGE, NOT_FOUND, DENIED, RETIRING, STALE, then the record is RETIRING; a recompute of its subject (R42). -/
def retireClaim (issuer : Requester) (f : RetireFields) (s : State) : State × Reply :=
  match keyOf f.key, expectOf f.expect with
  | some k, some expected =>
    match checkKeyed s.table issuer k expected (fun _ => false) with
    | .error reply => (s, reply)
    | .ok (i, r) =>
      let r' := retired r
      (recompute (writeRecord s issuer i r') r.subject, ⟨statusOf r', slotAndGeneration i r'⟩)
  | _, _ => refuse s .range

/-- RETIRE (R41). -/
def execRetire (s : State) : Host.Outcome State Fault Refusal :=
  match s.taken with
  | some (issuer, .retire f) => answer (retireClaim issuer f s)
  | _ => noEvent s

/-! ### SWEEP (R43 to R45) -/

/-- Whether a SWEEP marks a record (R44): LIVE, of the owner named, and of the subject named or of any under ALL. -/
def sweeps (owner : Requester) (subject : Option Subject) (r : Record) : Bool :=
  r.state == .live && r.owner == owner && (subject == none || subject == some r.subject)

/-- The claim of a SWEEP: RANGE, DENIED, then every record it marks is RETIRING; OVERRIDDEN per record when requester 0 overrides (R28);
a recompute of each subject in which a record was marked (R45). -/
def sweepClaim (issuer : Requester) (ownerByte subjectByte : Byte) (s : State) : State × Reply :=
  match below 8 ownerByte, selectorOf subjectByte with
  | some owner, some subject =>
    if issuer ≠ 0 ∧ owner ≠ issuer then refuse s .denied
    else
      let marked := slotsWhere s.table (sweeps owner subject)
      let s := s.withTable (rewrite s.table fun r => some (if sweeps owner subject r then retired r else r))
      let s := if overrides issuer owner then postList s (marked.map fun p => (owner, .overridden p.1)) else s
      (recomputeList s (subjectsOf marked), ⟨if marked.isEmpty then .ok else .staged, [byteOf marked.length]⟩)
  | _, _ => refuse s .range

/-- SWEEP (R44). -/
def execSweep (s : State) : Host.Outcome State Fault Refusal :=
  match s.taken with
  | some (issuer, .sweep owner subject) => answer (sweepClaim issuer owner subject s)
  | _ => noEvent s

/-! ### LOOKUP, READ SLOT, LIST (R46 to R49) -/

/-- The image of a slot as it stands (R21). -/
def image (s : State) (i : SlotIx) : List Byte := imageBytes s.posture.current i s.table[i]

/-- The claim of a LOOKUP (R46). -/
def lookupClaim (f : KeyFields) (s : State) : State × Reply :=
  match keyOf f with
  | none => refuse s .range
  | some k =>
    match findKey s.table k with
    | none => refuse s .notFound
    | some (i, _) => (s, ⟨.ok, image s i⟩)

/-- LOOKUP (R46). -/
def execLookup (s : State) : Host.Outcome State Fault Refusal :=
  match s.taken with
  | some (_, .lookup f) => answer (lookupClaim f s)
  | _ => noEvent s

/-- The claim of a READ SLOT (R47). -/
def readSlotClaim (slot : Byte) (s : State) : State × Reply :=
  match below 48 slot with
  | none => refuse s .range
  | some i => (s, ⟨.ok, image s i⟩)

/-- READ SLOT (R47). -/
def execReadSlot (s : State) : Host.Outcome State Fault Refusal :=
  match s.taken with
  | some (_, .readSlot slot) => answer (readSlotClaim slot s)
  | _ => noEvent s

/-- The non-FREE slots from a starting slot upward (R48). -/
def occupiedFrom (t : Table) (start : SlotIx) : List SlotIx :=
  (List.finRange 48).filter fun i => decide (start ≤ i) && t[i].isSome

/-- The payload of LIST (R48, Table 10-7): count, next slot, and the images of the first three non-FREE records. -/
def listPayload (s : State) (start : SlotIx) : List Byte :=
  let slots := occupiedFrom s.table start
  [byteOf (slots.take 3).length, optionalSlotByte slots[3]?] ++ (slots.take 3).flatMap (image s)

/-- The claim of a LIST (R48). -/
def listClaim (start : Byte) (s : State) : State × Reply :=
  match below 48 start with
  | none => refuse s .range
  | some i => (s, ⟨.ok, listPayload s i⟩)

/-- LIST (R48). -/
def execList (s : State) : Host.Outcome State Fault Refusal :=
  match s.taken with
  | some (_, .list start) => answer (listClaim start s)
  | _ => noEvent s

end Sys2Proof.Machine
end

