-- ==== Sys2Proof/Machine/Reset.lean ====
section
/-! DEFINITION. The two resets: FULL_RESET from the RESET input (R22, R81, R164, R178, R180) and SOFT RESET (R23, R175). -/

namespace Sys2Proof.Machine

/-- Every block at its full-reset value under the sampled levels, before OVERTEMP is judged. The queue and the counter of free values are not
the part's and stay (log 12). -/
def resetBlocks (p : PinLevels) (s : State) : State where
  timebase := ⟨0, 0⟩
  table := Default.table (Default.profile p)
  commitTimers := Default.commitTimers
  leaseClock := Default.leaseClock
  posture := Default.posture p
  resolver := Default.resolver (Default.profile p)
  measure := Default.measure
  governor := Default.governor
  outputs := Default.outputs
  trip := Default.trip p
  link := Default.link p
  profile := Default.profile p
  fresh := s.fresh
  pending := s.pending

/-- FULL_RESET (R22): every block at its full-reset value, then OVERTEMP judged from its sampled level at count 0 (R148, R164). -/
def execFullReset (p : PinLevels) (s : State) : Host.Outcome State Fault Refusal :=
  .next (judgeSources (resetBlocks p s) (sourceBit overtempSource))

/-- A record after soft reset (R23): an ORDINARY one is freed, an ANCHORED one loses its pending parts. -/
def softened (r : Record) : Option Record :=
  match r.cls with
  | .ordinary => none
  | .anchored => some { r with pendingBound := none, pendingMask := none }

/-- The claim of a SOFT RESET, in the order of R175: the table, the recomputes, the notice state emptied, RESET posted to all. -/
def softResetClaim (s : State) : State × Reply :=
  let s := recomputeAll (s.withTable (rewrite s.table softened))
  accept (postAll (s.withNotices (Vector.replicate 8 Default.notices)) .reset)

/-- SOFT RESET (R175). -/
def execSoftReset (s : State) : Host.Outcome State Fault Refusal :=
  match s.taken with
  | some (_, .softReset) => answer (softResetClaim s)
  | _ => noEvent s

end Sys2Proof.Machine
end

