-- ==== Sys2Proof/Machine/Trip.lean ====
section
/-! DEFINITION. The Trip Unit and the stop handshake (chapter 9): the OVERTEMP and STOP_ACK edges, the stop timer, RESUME, SET TRIP and
READ TRIP. -/

namespace Sys2Proof.Machine

/-- OVERTEMP_EDGE (R151): the kept level changes and OVERTEMP is judged. -/
def execOvertempEdge (asserted : Bool) (s : State) : Host.Outcome State Fault Refusal :=
  if s.trip.overtemp = asserted then noEvent s
  else .next (judgeSources (s.withTrip { s.trip with overtemp := asserted }) (sourceBit overtempSource))

/-- The Trip Unit after an edge of STOP_ACK (R156). -/
def acknowledge (asserted : Bool) (t : TripUnit) : TripUnit :=
  let t := { t with stopAck := asserted }
  if asserted ∧ t.state = .stopping then { t with state := .stopped, stopTimer := none } else t

/-- STOP_ACK_EDGE (R156). -/
def execStopAckEdge (asserted : Bool) (s : State) : Host.Outcome State Fault Refusal :=
  if s.trip.stopAck = asserted then noEvent s else .next (s.withTrip (acknowledge asserted s.trip))

/-- STOP_TIMER_EXPIRY (R157): when the stop timer is due at this count in STOPPING. -/
def execStopTimerExpiry (s : State) : Host.Outcome State Fault Refusal :=
  if s.trip.stopTimer = some s.timebase.count ∧ s.trip.state = .stopping then
    .next (s.withTrip { s.trip with state := .off, stopTimer := none })
  else noEvent s

/-- The claim of a RESUME (R159). -/
def resumeClaim (s : State) : State × Reply :=
  match s.trip.state with
  | .armed => accept s
  | .stopping => refuse s .tripBusy
  | .off => refuse s .tripOff
  | .tripped | .stopped =>
    if s.trip.latched &&& s.trip.active ≠ 0 then refuse s .active
    else accept (handOver (s.withTrip { s.trip with state := .armed, latched := 0 }))

/-- RESUME (R159). -/
def execResume (s : State) : Host.Outcome State Fault Refusal :=
  match s.taken with
  | some (_, .resume) => answer (resumeClaim s)
  | _ => noEvent s

/-- The claim of a SET TRIP (R161, R162): every setting is written, then every source is judged afresh in the same event. -/
def setTripClaim (packed : BitVec 128) (s : State) : State × Reply :=
  match tripSettingsOf packed with
  | none => refuse s .range
  | some x =>
    accept (judgeSources
      (s.withTrip { s.trip with enable := x.enable, stopClass := x.stopClass, levels := x.levels, stopTimeout := x.stopTimeout })
      (BitVec.allOnes 11))

/-- SET TRIP (R161). -/
def execSetTrip (s : State) : Host.Outcome State Fault Refusal :=
  match s.taken with
  | some (_, .setTrip packed) => answer (setTripClaim packed s)
  | _ => noEvent s

/-- READ TRIP (R163). -/
def execReadTrip (s : State) : Host.Outcome State Fault Refusal :=
  match s.taken with
  | some (_, .readTrip) => answer (s, ⟨.ok, tripPayload s.trip⟩)
  | _ => noEvent s

end Sys2Proof.Machine
end

