-- ==== Sys2Proof/Machine/Dispatch.lean ====
section
/-! DEFINITION. The dispatch: one arm per row of spec/opcode_table.json. -/

namespace Sys2Proof.Machine

/-- The effect of a row on everything but the queue. -/
def exec (i : Instr) (s : State) : Host.Outcome State Fault Refusal :=
  match i with
  | .fullReset pins => Sys2Proof.Machine.execFullReset pins s
  | .commandFrame sdi => Sys2Proof.Machine.execCommandFrame sdi s
  | .frameDuringExecution sdi => Sys2Proof.Machine.execFrameDuringExecution sdi s
  | .fetchFrame sdi => Sys2Proof.Machine.execFetchFrame sdi s
  | .place => Sys2Proof.Machine.execPlace s
  | .change => Sys2Proof.Machine.execChange s
  | .renew => Sys2Proof.Machine.execRenew s
  | .retire => Sys2Proof.Machine.execRetire s
  | .sweep => Sys2Proof.Machine.execSweep s
  | .lookup => Sys2Proof.Machine.execLookup s
  | .readSlot => Sys2Proof.Machine.execReadSlot s
  | .list => Sys2Proof.Machine.execList s
  | .readResolved => Sys2Proof.Machine.execReadResolved s
  | .readPosture => Sys2Proof.Machine.execReadPosture s
  | .readMeasure => Sys2Proof.Machine.execReadMeasure s
  | .readGovernor => Sys2Proof.Machine.execReadGovernor s
  | .readTrip => Sys2Proof.Machine.execReadTrip s
  | .readNotices => Sys2Proof.Machine.execReadNotices s
  | .setNoticeEnable => Sys2Proof.Machine.execSetNoticeEnable s
  | .clearNotices => Sys2Proof.Machine.execClearNotices s
  | .readProfile => Sys2Proof.Machine.execReadProfile s
  | .readSettings => Sys2Proof.Machine.execReadSettings s
  | .resume => Sys2Proof.Machine.execResume s
  | .softReset => Sys2Proof.Machine.execSoftReset s
  | .setScan => Sys2Proof.Machine.execSetScan s
  | .setSense => Sys2Proof.Machine.execSetSense s
  | .setCommit => Sys2Proof.Machine.execSetCommit s
  | .setGovern => Sys2Proof.Machine.execSetGovern s
  | .setRoute => Sys2Proof.Machine.execSetRoute s
  | .setOutput => Sys2Proof.Machine.execSetOutput s
  | .setTrip => Sys2Proof.Machine.execSetTrip s
  | .setPosture => Sys2Proof.Machine.execSetPosture s
  | .commitTimerExpiry subject => Sys2Proof.Machine.execCommitTimerExpiry subject s
  | .leaseTick => Sys2Proof.Machine.execLeaseTick s
  | .postureInputEdge input level => Sys2Proof.Machine.execPostureInputEdge input level s
  | .motionEdge asserted => Sys2Proof.Machine.execMotionEdge asserted s
  | .adpPresEdge present => Sys2Proof.Machine.execAdpPresEdge present s
  | .settleTimerExpiry => Sys2Proof.Machine.execSettleTimerExpiry s
  | .scanTimerExpiry => Sys2Proof.Machine.execScanTimerExpiry s
  | .startStepEnd => Sys2Proof.Machine.execStartStepEnd s
  | .gapEnd => Sys2Proof.Machine.execGapEnd s
  | .conversionCompletion code => Sys2Proof.Machine.execConversionCompletion code s
  | .spotCompletion code => Sys2Proof.Machine.execSpotCompletion code s
  | .overtempEdge asserted => Sys2Proof.Machine.execOvertempEdge asserted s
  | .stopAckEdge asserted => Sys2Proof.Machine.execStopAckEdge asserted s
  | .stopTimerExpiry => Sys2Proof.Machine.execStopTimerExpiry s
  | .periodEnd output => Sys2Proof.Machine.execPeriodEnd output s

end Sys2Proof.Machine
end

