-- ==== Sys2Proof/Machine/Step.lean ====
section
/-! DEFINITION. One step of the part: the row at the front of the queue, or the tick of the Timebase when the queue is empty (log 1). -/

namespace Sys2Proof.Machine

/-- The row at the front of the queue is executed on the state with the queue's rest; on an empty queue a microsecond passes. -/
def step (s : State) : Host.Outcome State Fault Refusal :=
  match s.pending with
  | [] => .next (tick s)
  | i :: rest => exec i (s.withPending rest)

/-- A row put at the front of the queue. -/
def State.withFront (s : State) (i : Instr) : State := s.withPending (i :: s.pending)

/-- The command that a word spells put at the front of the queue; no row of the table has bits, so no word spells one. -/
def State.withFetchWord (s : State) (nbits w : Nat) : State :=
  match Sys2Proof.decodeTableWord nbits w with
  | some i => s.withFront i
  | none => s

end Sys2Proof.Machine
end

