-- ==== Sys2Proof/Safety.lean ====
section
/-! DEFINITION. The words of the statements about the part: what holds of the table, the entries, the postures, the trips, the outputs and
the notices at every moment, what a completion leaves, and when a key names a record. -/

namespace Sys2Proof.Machine

/-! ### What a completion leaves (R169) -/

/-- The state with a response placed for a requester (R169): the notice set is the pending set, which becomes the reported set (R173). -/
def responded (u : State) (r : Requester) (dropped : Bool) (status : Status) (payload : List Byte) : State :=
  { u with link := { u.link with
      slot := some {
        response := { status := status
                      priorUnread := match u.link.slot with | none => false | some held => !held.fetched
                      dropped := dropped
                      requester := r
                      notices := u.link.notices[r].pending
                      payload := payload }
        fetched := false }
      notices := u.link.notices.set r { u.link.notices[r] with reported := u.link.notices[r].pending } } }

/-- The state after the completion of a command whose claim left this state (R169): the response is placed and the Link Port is IDLE. -/
def completed (u : State) (e : Execution) (status : Status) (payload : List Byte) : State :=
  let t := responded u e.requester e.dropped status payload
  { t with link := { t.link with execution := none } }

/-- A row refused, or answered without effect: the state changes by the response alone. -/
def Answers (i : Instr) (s : State) (e : Execution) (status : Status) (payload : List Byte) : Prop :=
  exec i s = .next (completed s e status payload)

/-! ### Keys (R5, R25) -/

/-- The fields of a key name this owner, subject and tag (R25). -/
def Names (f : KeyFields) (r : Record) : Prop :=
  f.owner.toNat = r.owner.val ∧ f.subject.toNat = r.subject.val ∧ f.tag = r.tag

/-- The slot holds the one record that the key names (R5). -/
def HoldsKey (t : Table) (f : KeyFields) (i : SlotIx) (r : Record) : Prop :=
  t[i] = some r ∧ Names f r ∧ ∀ (j : SlotIx) (q : Record), t[j] = some q → Names f q → j = i

/-- No record answers to the key (R25). -/
def NoRecord (t : Table) (f : KeyFields) : Prop := ∀ (j : SlotIx) (q : Record), t[j] = some q → ¬ Names f q

/-- A key in range (R25). -/
def KeyInRange (f : KeyFields) : Prop := f.owner.toNat ≤ 7 ∧ f.subject.toNat ≤ 9

/-- A present flag of 0 or 1 (R177). -/
def FlagOk (flag : Byte) : Prop := flag = 0 ∨ flag = 1

/-- The expected generation is absent, or is the record's (R27). -/
def Expected (f : ExpectFields) (r : Record) : Prop := f.flag = 0 ∨ (f.flag = 1 ∧ f.generation = r.generation)

/-- A keyed command may alter the record in this slot: it is the one the key names, LIVE, of the issuer unless the issuer is 0, and of
the expected generation (R25 to R27). -/
def MayAlterSlot (s : State) (issuer : Requester) (k : KeyFields) (x : ExpectFields) (i : SlotIx) (r : Record) : Prop :=
  HoldsKey s.table k i r ∧ (issuer = r.owner ∨ issuer = 0) ∧ r.state = .live ∧ Expected x r

/-- How a keyed command whose own fields are in range is refused, in the order of Table 2-3: NOT_FOUND, DENIED, RETIRING, STALE. -/
inductive KeyedRefusal (s : State) (issuer : Requester) (k : KeyFields) (x : ExpectFields) : Status → List Byte → Prop
  | notFound : NoRecord s.table k → KeyedRefusal s issuer k x .notFound []
  | denied (i : SlotIx) (r : Record) : HoldsKey s.table k i r → issuer ≠ r.owner → issuer ≠ 0 → KeyedRefusal s issuer k x .denied []
  | retiring (i : SlotIx) (r : Record) : HoldsKey s.table k i r → (issuer = r.owner ∨ issuer = 0) → r.state = .retiring →
      KeyedRefusal s issuer k x .retiring []
  | stale (i : SlotIx) (r : Record) : HoldsKey s.table k i r → (issuer = r.owner ∨ issuer = 0) → r.state = .live → x.flag = 1 →
      x.generation ≠ r.generation → KeyedRefusal s issuer k x .stale [slotByte i, r.generation]

/-- A record of slot i altered by an accepted command: it is written back, and its owner is posted OVERRIDDEN when requester 0 altered a
record of owner 1-7 (R28). -/
def altered (s : State) (issuer : Requester) (i : SlotIx) (r : Record) : State :=
  if issuer = 0 ∧ r.owner ≠ 0 then post { s with table := s.table.set i (some r) } r.owner (.overridden i)
  else { s with table := s.table.set i (some r) }

/-! ### The Limit Table (R5 to R15, R19) -/

/-- What holds of every record: the mask is not empty (R8); a pending bound is looser and a pending mask narrower (R9, R10); a lease is
1-43200 s (R13); class, owner and state decide its presence (R12, R15); a bound of FAN_CAP is a level (R4). -/
def RecordOk (r : Record) : Prop :=
  r.mask ≠ 0
  ∧ (∀ b ∈ r.pendingBound, r.bound.toNat < b.toNat)
  ∧ (∀ m ∈ r.pendingMask, m ≠ 0 ∧ m &&& r.mask = m ∧ m ≠ r.mask)
  ∧ (∀ n ∈ r.lease, 1 ≤ n ∧ n ≤ 43200)
  ∧ (r.cls = .anchored → r.owner = 0 ∧ r.lease = none)
  ∧ (r.state = .live → r.owner ≠ 0 → r.lease.isSome)
  ∧ (r.state = .retiring → r.lease = none ∧ r.pendingBound = none ∧ r.pendingMask = none)
  ∧ (r.subject = fanCapSubject → r.bound.toNat ≤ 15 ∧ ∀ b ∈ r.pendingBound, b.toNat ≤ 15)

/-- What holds of the table: every record is sound, no two share a key (R5), and no agent owns more than 12 (R19). -/
def TableOk (t : Table) : Prop :=
  (∀ i : SlotIx, ∀ r ∈ t[i], RecordOk r)
  ∧ (∀ i j : SlotIx, ∀ r ∈ t[i], ∀ q ∈ t[j], r.owner = q.owner → r.subject = q.subject → r.tag = q.tag → i = j)
  ∧ (∀ a : Requester, a ≠ 0 → owned t a ≤ 12)

/-! ### The Resolver, the Governor and the Measurement Unit (R88, R108, R109, R121, R126, R129) -/

/-- Every resolved entry is the one its records give in the current posture (R89). -/
def ResolvedOk (s : State) : Prop := ∀ sub : Subject, s.resolver[sub] = computeEntry s.table s.posture.current sub

/-- Every target level is the one the pressures, the routes and the fan cap give (R129). -/
def TargetsOk (s : State) : Prop := ∀ a : OutputIx, s.governor.targets[a] = targetLevel s.governor s.fanCap a

/-- What holds of a measured subject of the Governor: a run is kept at pressure 15 alone, the flag only within a run and with a saturation
time, and no hold is 0 (R121, R126, R131). -/
def GovernedOk (g : Governed) : Prop :=
  (g.runStart.isSome → g.pressure = 15) ∧ (g.saturated → g.runStart.isSome ∧ g.saturationTime ≠ 0) ∧ g.riseHold ≠ 0 ∧ g.fallHold ≠ 0

/-- A step that a spot check may resume, as Table 6-2 bounds it. -/
def ResumeOk : Resume → Prop
  | .starting left => left ≤ 2
  | .converting _ => True
  | .gap c left => c ≠ 0 ∧ left ≤ 1

/-- The sequencer within Table 6-2. -/
def SequencerOk : Sequencer → Prop
  | .idle => True
  | .starting left => left ≤ 2
  | .converting _ _ => True
  | .gap c left => c ≠ 0 ∧ left ≤ 1
  | .spot _ resume => ∀ x ∈ resume, ResumeOk x

/-- What holds of measuring and governing: the sequencer within its table, every filter within 0 to 8152.03125 units (R109), and every
subject of the Governor sound. -/
def MeasureOk (s : State) : Prop :=
  SequencerOk s.measure.sequencer ∧ (∀ m : Measured, ∀ f ∈ s.measure.filters[m], f ≤ 1023 * 255 * 8)
  ∧ ∀ m : Measured, GovernedOk s.governor.subjects[m]

/-! ### The Posture Monitor (R73, R75, R76, R83) -/

/-- What holds of a settle in progress: its candidate is the raw posture and not the current one, its kind is their order, a STRICT one
runs, a LOOSE one is held exactly while MOTION is asserted, and its duration lies within its kind's settings. -/
def SettleOk (p : PostureMonitor) (x : Settle) : Prop :=
  x.candidate = rawPosture p.levels ∧ x.candidate ≠ p.current
  ∧ (x.kind = .strict ↔ postureIndex p.current < postureIndex x.candidate)
  ∧ (x.kind = .strict → x.due.isSome ∧ x.duration.toNat ≤ 2550)
  ∧ (x.kind = .loose → (x.due = none ↔ p.levels[motionIndex] = true) ∧ x.duration.toNat ≤ 25500)

/-- What holds of the Posture Monitor: it is STEADY exactly when the raw posture is the current one, and its settle times are acceptable. -/
def PostureOk (p : PostureMonitor) : Prop :=
  (p.settle = none ↔ rawPosture p.levels = p.current) ∧ (∀ x ∈ p.settle, SettleOk p x)
  ∧ p.strictTime.toNat ≤ 2550 ∧ p.strictTime.toNat % 10 = 0 ∧ p.looseTime.toNat ≤ 25500 ∧ p.looseTime.toNat % 100 = 0

/-! ### The Trip Unit and the Output Stage (R137, R141, R150 to R155) -/

/-- What holds of the Trip Unit: every active source is latched (R152), ARMED is the empty latched set (R153), the stop timer runs exactly
in STOPPING (R155), and the stop timeout is not 0 (R161). -/
def TripOk (t : TripUnit) : Prop :=
  t.active &&& t.latched = t.active ∧ (t.state = .armed ↔ t.latched = 0) ∧ (t.stopTimer.isSome ↔ t.state = .stopping)
  ∧ t.stopTimeout ≠ 0

/-- The active set is the enabled sources whose condition holds, and the saturated set is the Governor's (R150, R127). -/
def ActiveOk (s : State) : Prop :=
  s.trip.active = judgedSet s.trip s.measure.latest ∧ s.trip.saturated = saturatedSet s.governor

/-- What holds of the outputs: no period is 0 (R137), and an output is FORCED exactly while its force condition holds (R141). -/
def OutputsOk (s : State) : Prop :=
  ∀ ix : OutputIx, s.outputs[ix].period ≠ 0 ∧ s.outputs[ix].staged ≠ some 0
    ∧ (s.outputs[ix].state = .forced ↔ forceCondition s.trip.active s.trip.latched s.outputs[ix] = true)

/-! ### The Link Port (R169, R173) -/

/-- Every reported set is a subset of its pending set (R173). -/
def NoticesOk (l : LinkPort) : Prop := ∀ r : Requester, l.notices[r].reported &&& l.notices[r].pending = l.notices[r].reported

/-- No execution outlives 40 us: one of that age has its completion waiting (R169). -/
def CompletionInTime (s : State) : Prop :=
  ∀ e ∈ s.link.execution, e.age ≤ 40 ∧ (e.age = 40 → completionRow e.command ∈ s.pending)

/-! ### Time (R53 to R55, R61, R103, R106, R138) -/

/-- The sequencer's event is waiting when its step has run out (R106). -/
def StepWaits (s : State) : Prop :=
  match s.measure.sequencer with
  | .idle => True
  | .starting left => left = 0 → .startStepEnd ∈ s.pending
  | .gap _ left => left = 0 → .gapEnd ∈ s.pending
  | .converting _ due => due = s.timebase → ∃ code, .conversionCompletion code ∈ s.pending
  | .spot due _ => due = s.timebase → ∃ code, .spotCompletion code ∈ s.pending

/-- No timer, period or step of the part is passed over: whatever is due at this moment is waiting in the queue. The commit timers, the lease
clock, the settle timer and the stop timer are due at a count (R53); the scan timer, a period end and a step at a moment. -/
def NothingMissed (s : State) : Prop :=
  (∀ sub : Subject, s.commitTimers[sub].nextExpiry = s.timebase.count → .commitTimerExpiry sub ∈ s.pending)
  ∧ (s.leaseClock = s.timebase.count → .leaseTick ∈ s.pending)
  ∧ (∀ x ∈ s.posture.settle, x.due = some s.timebase.count → .settleTimerExpiry ∈ s.pending)
  ∧ (s.trip.stopTimer = some s.timebase.count → .stopTimerExpiry ∈ s.pending)
  ∧ (s.measure.scan.next = s.timebase → .scanTimerExpiry ∈ s.pending)
  ∧ (∀ ix : OutputIx, s.outputs[ix].nextEnd = s.timebase → .periodEnd ix ∈ s.pending)
  ∧ StepWaits s

/-! ### Notices (R172) -/

/-- The notice states after a claim that posts a kind with a slot to the owners of the records it treats, in ascending slot order: the owner
of one or more of them holds the kind pending and not reported, and the highest of their slots as its last slot of the kind; every other
requester's notice state is as it was. -/
def PostedToOwners (before after : Vector NoticeState 8) (table : Table) (treated : Record → Bool) (kind : SlotIx → Notice) : Prop :=
  ∀ q : Requester,
    ((∀ i : SlotIx, ∀ r ∈ table[i], treated r = true → r.owner ≠ q) → after[q] = before[q])
    ∧ (∀ i : SlotIx, ∀ r ∈ table[i], treated r = true → r.owner = q →
        (∀ j : SlotIx, ∀ x ∈ table[j], treated x = true → x.owner = q → j ≤ i) → after[q] = before[q].take (kind i))

end Sys2Proof.Machine
end

