-- ==== Sys2Proof/Certificates/Slice0/Obligations.lean ====
section
/-! DEFINITION. The statements about the part. A command row is the completion of the taken command that the Link Port holds (log 4); its
statements take that command `e` from `link.execution`. Where a conclusion is an equation of states it is also the frame: whatever it does
not name is as it was. -/

open Sys2Proof Sys2Proof.Machine

/-! ### The step (log 1, log 2, log 3) -/

/-- A step of a state with a row at the front of its queue is that row's meaning on the state with the queue's rest. That rows wait in a queue
is the model's choice (log 1); that a row is whole and indivisible is the spec's (95_what_each_step_holds.md). -/
def Obligations.StepTakesFront : Prop :=
  ∀ (c : Instr) (s : State) (rest : List Instr), s.pending = c :: rest → step s = exec c { s with pending := rest }

/-- On an empty queue a microsecond passes (the tick is the model's choice, log 1): the Timebase moves as R52 gives, the times left of STARTING
and GAP and the age of an execution move with it, and the events now due enter the queue, each once, in some order (log 2): the commit timers,
lease clock, settle timer and stop timer due at the new count, the scan timer, the period ends and the sequencer's step due at the new moment,
and the completion of the command in execution, at the latest 40 us after it began and of no other command. -/
def Obligations.TickPassesOneMicrosecond : Prop :=
  ∀ s : State, s.pending = [] → ∃ t : State, step s = .next t
    ∧ (s.timebase.micro.val < 999 → t.timebase.count = s.timebase.count ∧ t.timebase.micro.val = s.timebase.micro.val + 1)
    ∧ (s.timebase.micro.val = 999 → t.timebase.count = s.timebase.count + 1 ∧ t.timebase.micro.val = 0)
    ∧ t.pending.Perm (dueEvents (advance s)) ∧ t.pending.Nodup
    ∧ (∀ sub : Subject, .commitTimerExpiry sub ∈ t.pending ↔ s.commitTimers[sub].nextExpiry = t.timebase.count)
    ∧ (.leaseTick ∈ t.pending ↔ s.leaseClock = t.timebase.count)
    ∧ (.settleTimerExpiry ∈ t.pending ↔ ∃ x ∈ s.posture.settle, x.due = some t.timebase.count)
    ∧ (.stopTimerExpiry ∈ t.pending ↔ s.trip.stopTimer = some t.timebase.count)
    ∧ (.scanTimerExpiry ∈ t.pending ↔ s.measure.scan.next = t.timebase)
    ∧ (∀ ix : OutputIx, .periodEnd ix ∈ t.pending ↔ s.outputs[ix].nextEnd = t.timebase)
    ∧ (.startStepEnd ∈ t.pending ↔ ∃ left, s.measure.sequencer = .starting left ∧ left ≤ 1)
    ∧ (.gapEnd ∈ t.pending ↔ ∃ c left, s.measure.sequencer = .gap c left ∧ left ≤ 1)
    ∧ ((∃ code, .conversionCompletion code ∈ t.pending) ↔ ∃ c, s.measure.sequencer = .converting c t.timebase)
    ∧ ((∃ code, .spotCompletion code ∈ t.pending) ↔ ∃ resume, s.measure.sequencer = .spot t.timebase resume)
    ∧ (∀ e ∈ s.link.execution, 39 ≤ e.age → completionRow e.command ∈ t.pending)
    ∧ (∀ c : Command, completionRow c ∈ t.pending → ∃ e ∈ s.link.execution, completionRow e.command = completionRow c)
    ∧ t = { s with
        timebase := t.timebase
        measure := { s.measure with sequencer := passMicro s.measure.sequencer }
        link := { s.link with execution := s.link.execution.map fun e => { e with age := e.age + 1 } }
        fresh := t.fresh
        pending := t.pending }

/-- No row stops the part or touches the queue: every row, at every operand and in every state, answers a next state with the same queue. "Every
state" rests on log 3 (a row whose event is not at hand changes nothing), "the same queue" on log 1 (the queue is the model's); both are the
model's choices. -/
def Obligations.EveryRowGoesOn : Prop := ∀ (c : Instr) (s : State), ∃ t : State, exec c s = .next t ∧ t.pending = s.pending

/-- An event that the part does not have at this moment changes nothing (the model's choice, log 3): a timer not due, a step that has not
run out, an edge to the level already kept, a command not in execution. -/
def Obligations.EventsNotAtHandChangeNothing : Prop :=
  ∀ s : State,
    (∀ sub : Subject, s.commitTimers[sub].nextExpiry ≠ s.timebase.count → exec (.commitTimerExpiry sub) s = .next s)
    ∧ (s.leaseClock ≠ s.timebase.count → exec .leaseTick s = .next s)
    ∧ ((∀ x ∈ s.posture.settle, x.due ≠ some s.timebase.count) → exec .settleTimerExpiry s = .next s)
    ∧ (s.measure.scan.next ≠ s.timebase → exec .scanTimerExpiry s = .next s)
    ∧ (s.measure.sequencer ≠ .starting 0 → exec .startStepEnd s = .next s)
    ∧ ((∀ c : Channel, s.measure.sequencer ≠ .gap c 0) → exec .gapEnd s = .next s)
    ∧ (∀ code, (∀ c : Channel, s.measure.sequencer ≠ .converting c s.timebase) → exec (.conversionCompletion code) s = .next s)
    ∧ (∀ code, (∀ resume, s.measure.sequencer ≠ .spot s.timebase resume) → exec (.spotCompletion code) s = .next s)
    ∧ (s.trip.stopTimer ≠ some s.timebase.count → exec .stopTimerExpiry s = .next s)
    ∧ (∀ ix : OutputIx, s.outputs[ix].nextEnd ≠ s.timebase → exec (.periodEnd ix) s = .next s)
    ∧ (∀ input, exec (.postureInputEdge input s.posture.levels[inputIndex input]) s = .next s)
    ∧ exec (.motionEdge s.posture.levels[motionIndex]) s = .next s
    ∧ exec (.adpPresEdge s.posture.levels[adapterIndex]) s = .next s
    ∧ exec (.overtempEdge s.trip.overtemp) s = .next s
    ∧ exec (.stopAckEdge s.trip.stopAck) s = .next s
    ∧ (∀ c : Command, (∀ e ∈ s.link.execution, completionRow e.command ≠ completionRow c) → exec (completionRow c) s = .next s)

/-! ### Resets -/

/-- Full reset: the clocks, the profile number and the records of Table 11-1 (R22, R52, R54, R61, R178, R179); the Posture Monitor (R81), the
resolved entries in BAG (R95), the Measurement Unit (R119), the Governor with the settings of R121 and the routes of Table 7-3 (R135), and the
Link Port (R166, R167, R172) but for the TRIP that a sampled OVERTEMP posts. -/
def Obligations.FullResetStartsTheBlocks : Prop :=
  let subjects : List Subject := [0, 0, 1, 1, 1, 6, 6, 7, 8, 9]
  let masks : List Mask := [0b001, 0b110, 0b001, 0b010, 0b100, 0b010, 0b101, 0b111, 0b111, 0b100]
  let bounds : List (List Half) :=
    [[280, 360, 720, 320], [200, 240, 360, 200], [120, 200, 440, 160], [96, 144, 280, 120], [48, 64, 96, 48],
     [332, 332, 332, 328], [352, 352, 352, 352], [344, 344, 352, 344], [360, 360, 360, 360], [2, 2, 3, 2]]
  ∀ (p : PinLevels) (s : State), ∃ t : State, exec (.fullReset p) s = .next t
    ∧ t.timebase = ⟨0, 0⟩
    ∧ t.profile.val = 2 * p.prof1.toNat + p.prof0.toNat
    ∧ t.table = Default.table t.profile
    ∧ (∀ k : SlotIx, k.val < 10 → ∃ (subject : Subject) (mask : Mask) (column : List Half) (bound : Half),
        subjects[k.val]? = some subject ∧ masks[k.val]? = some mask ∧ bounds[k.val]? = some column ∧ column[t.profile.val]? = some bound
        ∧ t.table[k] = some {
            state := .live, owner := 0, subject := subject, tag := BitVec.ofNat 8 (0xF0 + k.val), cls := .anchored, bound := bound
            mask := mask, pendingBound := none, pendingMask := none, lease := none, generation := 0 })
    ∧ (∀ k : SlotIx, 10 ≤ k.val → t.table[k] = none)
    ∧ t.commitTimers.toList.map (·.exponent) = [0, 5, 1, 0, 0, 2, 6, 6, 6, 3]
    ∧ (∀ sub : Subject, t.commitTimers[sub].staged = none
        ∧ t.commitTimers[sub].nextExpiry.toNat = 125 * 2 ^ t.commitTimers[sub].exponent.val)
    ∧ t.leaseClock = 1000
    ∧ t.posture.levels.toList = [p.lidOpen, p.dockPresent, p.contact, p.motion, p.adapterPresent]
    ∧ (∀ i : Fin 5, t.posture.captures[i] = none) ∧ t.posture.current = .bag ∧ t.posture.lastChange = none
    ∧ t.posture.strictTime = 250 ∧ t.posture.looseTime = 3000
    ∧ (rawPosture t.posture.levels = .bag → t.posture.settle = none)
    ∧ (rawPosture t.posture.levels ≠ .bag → t.posture.settle =
        some ⟨rawPosture t.posture.levels, .loose, 3000, if p.motion = true then none else some 3000⟩)
    ∧ (∀ sub : Subject, t.resolver[sub] = computeEntry t.table .bag sub)
    ∧ t.measure.sequencer = .idle ∧ t.measure.scan = ⟨.us1000, none, ⟨1, 0⟩⟩
    ∧ (∀ c : Channel, t.measure.latest[c] = none) ∧ (∀ m : Measured, t.measure.filters[m] = none ∧ t.measure.gains[m] = 64)
    ∧ t.measure.shifts.toList.map (·.val) = [2, 12, 3, 3, 2, 4, 10, 10, 10]
    ∧ (∀ m : Measured, t.governor.subjects[m].pressure = 0 ∧ t.governor.subjects[m].lastStep = none
        ∧ t.governor.subjects[m].runStart = none ∧ t.governor.subjects[m].saturated = false)
    ∧ t.governor.subjects.toList.map (fun g => (g.hysteresis, g.riseHold, g.fallHold, g.saturationTime)) =
        [(8, 8, 64, 0), (8, 8, 64, 0), (8, 8, 64, 0), (8, 8, 64, 0), (16, 16, 64, 0), (16, 16, 64, 0),
         (4, 200, 2000, 125), (4, 200, 2000, 125), (4, 200, 2000, 125)]
    ∧ t.governor.routes.toList.map (·.toList) =
        [[some 0, none, none, none], [some 0, none, none, none], [none, some 0, none, none], [some 6, some 6, some 0, none],
         [some 0, some 2, none, none], [none, none, some 0, none], [some 4, some 4, none, some 0], [some 4, some 4, none, some 0],
         [some 8, none, some 0, some 2]]
    ∧ (∀ a : OutputIx, t.governor.targets[a] = 0)
    ∧ t.link.execution = none ∧ t.link.slot = none ∧ t.link.voidFrame = p.selLow
    ∧ (∀ r : Requester, t.link.notices[r].reported = 0 ∧ t.link.notices[r].enable = 0 ∧ t.link.notices[r].lastExpired = none
        ∧ t.link.notices[r].lastOverridden = none ∧ t.link.notices[r].lastCommitted = none)

/-- Full reset: the Trip Unit and the outputs (R148, R164). Sampled deasserted, OVERTEMP leaves ARMED and TRACKING and no notice; sampled
asserted it rises at count 0, is latched and captured, posts TRIP, starts the handshake and forces every output. -/
def Obligations.FullResetJudgesOvertemp : Prop :=
  ∀ (p : PinLevels) (s : State), ∃ t : State, exec (.fullReset p) s = .next t
    ∧ t.trip.overtemp = p.overtemp ∧ t.trip.stopAck = p.stopAck ∧ t.trip.saturated = 0
    ∧ t.trip.enable = 0b11110000000 ∧ t.trip.stopClass = 0b01010000000 ∧ t.trip.stopTimeout = 50
    ∧ t.trip.levels.toList = [1023, 1023, 1023, 1023, 1023, 1023, 1023, 900, 300]
    ∧ (p.overtemp = false → t.trip.state = .armed ∧ t.trip.active = 0 ∧ t.trip.latched = 0 ∧ t.trip.capture = none
        ∧ t.trip.stopTimer = none ∧ (∀ ix : OutputIx, t.outputs[ix].state = .tracking)
        ∧ (∀ r : Requester, t.link.notices[r].pending = 0))
    ∧ (p.overtemp = true → t.trip.active = sourceBit overtempSource ∧ t.trip.latched = sourceBit overtempSource
        ∧ t.trip.capture = some (0, overtempSource)
        ∧ (p.stopAck = false → t.trip.state = .stopping ∧ t.trip.stopTimer = some 50)
        ∧ (p.stopAck = true → t.trip.state = .stopped ∧ t.trip.stopTimer = none)
        ∧ (∀ ix : OutputIx, t.outputs[ix].state = .forced)
        ∧ (∀ r : Requester, t.link.notices[r].pending = Notice.bit .trip))
    ∧ t.outputs.toList.map (fun o => (o.period, o.staged, o.nextEnd, o.applied, o.cutoff, o.mask, o.restart)) =
        [(64, none, ⟨1, 24⟩, 0, .full, 0b11110000000, .manual), (64, none, ⟨1, 24⟩, 0, .full, 0b11110000000, .manual),
         (16, none, ⟨0, 256⟩, 0, .zero, 0b01110000000, .auto), (3, none, ⟨0, 48⟩, 0, .full, 0b01010000000, .auto)]

/-- The entries that the seeded records of each profile give in each posture: limit and winning slot of PKG_SHORT, PKG_LONG, SKIN_BASE,
SKIN_DECK, CELL and FAN_CAP (Tables 11-1, 11-2, 11-3); the other subjects are UNBOUNDED. -/
def Obligations.SeededEntries : Prop :=
  let bounded : List Subject := [0, 1, 6, 7, 8, 9]
  let row := fun (n : Fin 4) (p : Posture) =>
    bounded.map fun sub => ((computeEntry (Default.table n) p sub).limit.map (·.toNat), (computeEntry (Default.table n) p sub).winner)
  row 0 .bag = [(some 200, some 1), (some 48, some 4), (some 352, some 6), (some 344, some 7), (some 360, some 8), (some 2, some 9)]
  ∧ row 1 .bag = [(some 240, some 1), (some 64, some 4), (some 352, some 6), (some 344, some 7), (some 360, some 8), (some 2, some 9)]
  ∧ row 2 .bag = [(some 360, some 1), (some 96, some 4), (some 352, some 6), (some 352, some 7), (some 360, some 8), (some 3, some 9)]
  ∧ row 3 .bag = [(some 200, some 1), (some 48, some 4), (some 352, some 6), (some 344, some 7), (some 360, some 8), (some 2, some 9)]
  ∧ row 0 .desk = [(some 280, some 0), (some 120, some 2), (some 352, some 6), (some 344, some 7), (some 360, some 8), (none, none)]
  ∧ row 1 .desk = [(some 360, some 0), (some 200, some 2), (some 352, some 6), (some 344, some 7), (some 360, some 8), (none, none)]
  ∧ row 2 .desk = [(some 720, some 0), (some 440, some 2), (some 352, some 6), (some 352, some 7), (some 360, some 8), (none, none)]
  ∧ row 3 .desk = [(some 320, some 0), (some 160, some 2), (some 352, some 6), (some 344, some 7), (some 360, some 8), (none, none)]
  ∧ row 0 .lap = [(some 200, some 1), (some 96, some 3), (some 332, some 5), (some 344, some 7), (some 360, some 8), (none, none)]
  ∧ row 1 .lap = [(some 240, some 1), (some 144, some 3), (some 332, some 5), (some 344, some 7), (some 360, some 8), (none, none)]
  ∧ row 2 .lap = [(some 360, some 1), (some 280, some 3), (some 332, some 5), (some 352, some 7), (some 360, some 8), (none, none)]
  ∧ row 3 .lap = [(some 200, some 1), (some 120, some 3), (some 328, some 5), (some 344, some 7), (some 360, some 8), (none, none)]
  ∧ ∀ (n : Fin 4) (p : Posture), ∀ sub ∈ ([2, 3, 4, 5] : List Subject), computeEntry (Default.table n) p sub = ⟨none, none, 0⟩

/-- SOFT RESET (R175, R23): ORDINARY records are freed and ANCHORED ones lose their pending parts; every subject is recomputed; every notice
state is emptied and holds RESET; the response carries {RESET} to requester 0. Nothing else moves but, where the fan cap changes, the FAN
target, which becomes the smaller of its demand and the new fan cap (R97, R129). -/
def Obligations.SoftResetFreesAndTrims : Prop :=
  ∀ (s : State) (e : Execution), s.link.execution = some e → e.command = .softReset → e.requester = 0 →
    ∃ t : State, exec .softReset s = .next t
      ∧ (∀ i : SlotIx, s.table[i] = none → t.table[i] = none)
      ∧ (∀ (i : SlotIx) (r : Record), s.table[i] = some r → r.cls = .ordinary → t.table[i] = none)
      ∧ (∀ (i : SlotIx) (r : Record), s.table[i] = some r → r.cls = .anchored →
          t.table[i] = some { r with pendingBound := none, pendingMask := none })
      ∧ (∀ sub : Subject, t.resolver[sub] = computeEntry t.table s.posture.current sub)
      ∧ (t.fanCap = s.fanCap → t.governor = s.governor)
      ∧ (t.fanCap ≠ s.fanCap →
          t.governor.targets = s.governor.targets.set fanOutput (min (demand s.governor fanOutput) t.fanCap))
      ∧ (∀ r : Requester, t.link.notices[r] =
          { pending := Notice.bit .reset, reported := if r = 0 then Notice.bit .reset else 0, enable := 0, lastExpired := none,
            lastOverridden := none, lastCommitted := none })
      ∧ t.link.execution = none
      ∧ (∃ held, t.link.slot = some held ∧ held.fetched = false ∧ held.response.status = .ok ∧ held.response.payload = []
          ∧ held.response.requester = 0 ∧ held.response.notices = Notice.bit .reset ∧ held.response.dropped = e.dropped
          ∧ (held.response.priorUnread = true ↔ ∃ old, s.link.slot = some old ∧ old.fetched = false))
      ∧ t = { s with
          table := t.table
          resolver := t.resolver
          governor := { s.governor with targets := t.governor.targets }
          link := { s.link with execution := none, slot := t.link.slot, notices := t.link.notices } }

/-! ### Frames (R166, R168, R170, R171; a frame is one event with its bits, log 9) -/

/-- A well-formed COMMAND frame that ends while IDLE is a taken command (R168): every command of Table 10-2 with every value of its fields. -/
def Obligations.CommandFrameTaken : Prop :=
  ∀ (s : State) (r : Requester) (c : Command) (sdi : List Bool),
    s.link.execution = none → s.link.voidFrame = false → wholeBytes sdi = commandFrameBytes r c →
    (privileged (codeOf c) = true → r = 0) →
    exec (.commandFrame sdi) s = .next { s with link := { s.link with
      execution := some ⟨r, c, false, 0⟩
      sdo := List.replicate sdi.length false } }

/-- A frame that fails a check of R168 while IDLE: FRAMING, CHECK, UNKNOWN, MALFORMED, DENIED, in that order; its error response goes to the
requester of the header and nothing else changes. That SDO is low through the whole of a frame whose header is no frame type is the model's
choice (DESIGN CHOICE, log 22), since R166 says so of the header byte and of a COMMAND frame alone. -/
def Obligations.CommandFrameRefused : Prop :=
  ∀ (s : State) (header : Byte) (rest : List Byte) (sdi : List Bool),
    s.link.execution = none → s.link.voidFrame = false → wholeBytes sdi = header :: rest →
    ¬ (0x50 ≤ header.toNat ∧ header.toNat ≤ 0x57) →
    let isCommand := 0xA0 ≤ header.toNat ∧ header.toNat ≤ 0xA7
    let wrong := fun st => exec (.commandFrame sdi) s = .next
      (responded { s with link := { s.link with sdo := List.replicate sdi.length false } } (Fin.ofNat 8 header.toNat) false st [])
    let sumIsZero := ((header :: rest).map BitVec.toNat).sum % 256 = 0
    (¬ isCommand → wrong .framing)
    ∧ (rest.length < 3 → wrong .framing)
    ∧ ∀ (code n : Byte) (tail : List Byte), rest = code :: n :: tail →
      (tail.length ≠ n.toNat + 1 → wrong .framing)
      ∧ (isCommand → tail.length = n.toNat + 1 →
        (¬ sumIsZero → wrong .check)
        ∧ (sumIsZero → (∀ c, codeByte c ≠ code) → wrong .unknown)
        ∧ (sumIsZero → ∀ c, codeByte c = code →
          (n.toNat ≠ payloadLength c → wrong .malformed)
          ∧ (n.toNat = payloadLength c → privileged c = true → (Fin.ofNat 8 header.toNat : Requester) ≠ 0 → wrong .denied)))

/-- A frame that meets an execution (R170): a COMMAND frame, or one whose header is no frame type, sets the dropped flag while EXECUTING and
nothing else, in the row FRAME_DURING_EXECUTION (log 23) and in COMMAND_FRAME and FETCH_FRAME, which act by the header (log 11); once the
completion has been taken FRAME_DURING_EXECUTION sets none. A frame without a whole byte has no effect in any of the three rows (R166). The frame
that SEL holds open when full reset ends makes no frame, whatever its bits (R166; log 10). SDO low through a frame whose header is no frame type,
or that makes none, is the model's choice (log 22). -/
def Obligations.FrameMeetsExecution : Prop :=
  (∀ (s : State) (sdi : List Bool) (c : Instr), s.link.voidFrame = true →
    c = .commandFrame sdi ∨ c = .frameDuringExecution sdi ∨ c = .fetchFrame sdi →
    exec c s = .next { s with link := { s.link with voidFrame := false, sdo := List.replicate sdi.length false } })
  ∧ (∀ (s : State) (sdi : List Bool), exec (.fetchFrame sdi) s = exec (.commandFrame sdi) s)
  ∧ ∀ (s : State) (sdi : List Bool), s.link.voidFrame = false →
    (wholeBytes sdi = [] → ∀ c : Instr, c = .commandFrame sdi ∨ c = .frameDuringExecution sdi ∨ c = .fetchFrame sdi → exec c s = .next s)
    ∧ ∀ (header : Byte) (rest : List Byte), wholeBytes sdi = header :: rest → ¬ (0x50 ≤ header.toNat ∧ header.toNat ≤ 0x57) →
      (∀ (e : Execution) (c : Instr), s.link.execution = some e →
        c = .commandFrame sdi ∨ c = .frameDuringExecution sdi ∨ c = .fetchFrame sdi → exec c s = .next { s with link := { s.link with
          execution := some { e with dropped := true }
          sdo := List.replicate sdi.length false } })
      ∧ (s.link.execution = none → exec (.frameDuringExecution sdi) s =
          .next { s with link := { s.link with sdo := List.replicate sdi.length false } })

/-- A FETCH frame, in whichever frame row (R170, R171; log 11): NOT_READY while EXECUTING, EMPTY from an empty slot, else the held response,
shifted out after the header with SDO low before and after, each byte most significant bit first (R166); only a response clocked whole is
fetched, and nothing else changes. The bytes of a response are those of Tables 10-4 and 10-5, its check making the sum of all a multiple of
256; bits that a table leaves unassigned are sent as 0 by the model's choice (log 24). -/
def Obligations.FetchFrameAnswers : Prop :=
  (∀ (s : State) (header : Byte) (rest : List Byte) (sdi : List Bool) (c : Instr),
    s.link.voidFrame = false → wholeBytes sdi = header :: rest → 0x50 ≤ header.toNat → header.toNat ≤ 0x57 →
    c = .fetchFrame sdi ∨ c = .frameDuringExecution sdi ∨ c = .commandFrame sdi →
    let shifted := fun r : Response =>
      (List.replicate 8 false ++ bitsOfBytes (responseBytes r) ++ List.replicate sdi.length false).take sdi.length
    let bare := fun st => ({ status := st, priorUnread := false, dropped := false, requester := Fin.ofNat 8 header.toNat, notices := 0,
                             payload := [] } : Response)
    (s.link.execution.isSome → exec c s = .next { s with link := { s.link with sdo := shifted (bare .notReady) } })
    ∧ (s.link.execution = none → s.link.slot = none → exec c s = .next { s with link := { s.link with sdo := shifted (bare .empty) } })
    ∧ (∀ held, s.link.execution = none → s.link.slot = some held → 8 + 8 * (responseBytes held.response).length ≤ sdi.length →
        exec c s = .next { s with link := { s.link with
          slot := some { held with fetched := true }
          sdo := shifted held.response } })
    ∧ (∀ held, s.link.execution = none → s.link.slot = some held → sdi.length < 8 + 8 * (responseBytes held.response).length →
        exec c s = .next { s with link := { s.link with sdo := shifted held.response } }))
  ∧ (∀ r : Response, ∃ check : Byte,
      responseBytes r = [(match r.status with
          | .ok => 0x00 | .staged => 0x01 | .notReady => 0x02 | .empty => 0x03 | .notFound => 0x10 | .duplicate => 0x11 | .full => 0x12
          | .quota => 0x13 | .stale => 0x14 | .retiring => 0x15 | .denied => 0x16 | .range => 0x17 | .active => 0x18 | .tripBusy => 0x19
          | .tripOff => 0x1A | .check => 0x20 | .framing => 0x21 | .malformed => 0x22 | .unknown => 0x23 : Byte),
        BitVec.ofNat 8 (r.priorUnread.toNat + 2 * r.dropped.toNat), BitVec.ofNat 8 r.requester.val, BitVec.ofNat 8 r.notices.toNat,
        BitVec.ofNat 8 r.payload.length] ++ r.payload ++ [check]
      ∧ ((responseBytes r).map BitVec.toNat).sum % 256 = 0)
  ∧ ∀ (bytes : List Byte) (k : Nat) (bit : Fin 8), (bitsOfBytes bytes)[8 * k + bit.val]? = bytes[k]?.map fun b => b.getMsbD bit.val

/-- Every command of Table 10-2, with every value of its fields, passes the checks from the bits of the frame that carries it, whatever bits of an
incomplete last byte follow, and is read with those values (R166, R168, Table 10-2, Table 10-3). -/
def Obligations.CommandFrameRoundTrip : Prop :=
  ∀ (r : Requester) (c : Command) (more : List Bool), (privileged (codeOf c) = true → r = 0) → more.length < 8 →
    ∃ (header : Byte) (rest : List Byte), wholeBytes (bitsOfBytes (commandFrameBytes r c) ++ more) = header :: rest
      ∧ judgeFrame header rest = .take r c

/-! ### Notices (R172 to R174) -/

/-- A notice handed to a requester (R172): its kind is pending and no longer reported, a kind with a slot leaves it as the last slot; the enable
set, the other requesters and the rest of the part are as they were. The kinds' bits are those of Table 10-1: bit 0 EXPIRED, 1 OVERRIDDEN,
2 COMMITTED, 3 POSTURE, 4 TRIP, 5 RESET. -/
def Obligations.NoticePosted : Prop :=
  (∀ (n : Notice) (k : Fin 6), n.bit.getLsbD k.val = true ↔
    k = (match n with | .expired _ => 0 | .overridden _ => 1 | .committed _ => 2 | .posture => 3 | .trip => 4 | .reset => 5))
  ∧ ∀ (s : State) (r : Requester) (n : Notice), ∃ after : NoticeState,
    post s r n = { s with link := { s.link with notices := s.link.notices.set r after } }
    ∧ after.pending = s.link.notices[r].pending ||| n.bit
    ∧ after.reported = s.link.notices[r].reported &&& ~~~n.bit
    ∧ after.enable = s.link.notices[r].enable
    ∧ after.lastExpired = (match n with | .expired i => some i | _ => s.link.notices[r].lastExpired)
    ∧ after.lastOverridden = (match n with | .overridden i => some i | _ => s.link.notices[r].lastOverridden)
    ∧ after.lastCommitted = (match n with | .committed i => some i | _ => s.link.notices[r].lastCommitted)

/-- ALERT (R174) follows the notice states: asserted exactly while some requester holds a pending kind that it has enabled; building a
response leaves it; it is deasserted at full reset that samples OVERTEMP deasserted or asserted. -/
def Obligations.AlertFollowsNotices : Prop :=
  (∀ l : LinkPort, alert l = true ↔ ∃ (r : Requester) (k : Fin 6), l.notices[r].pending.getLsbD k.val = true
      ∧ l.notices[r].enable.getLsbD k.val = true)
  ∧ (∀ (s : State) (r : Requester) (dropped : Bool) (status : Status) (payload : List Byte),
      alert (responded s r dropped status payload).link = alert s.link)
  ∧ (∀ (p : PinLevels) (s t : State), exec (.fullReset p) s = .next t → alert t.link = false)

/-- READ NOTICES, SET NOTICE ENABLE and CLEAR NOTICES (R173): each acts on the issuer's own notice state; a set that names a bit that is no kind is
refused RANGE. READ NOTICES carries the three sets and the three last slots, each 128 plus the slot or 0 when absent (Table 10-7); bits that the
table leaves unassigned are sent as 0 by the model's choice (log 24). -/
def Obligations.NoticeCommands : Prop :=
  ∀ (s : State) (e : Execution), s.link.execution = some e →
    let n := s.link.notices[e.requester]
    let lastSlot := fun x : Option SlotIx => (match x with | none => 0 | some i => BitVec.ofNat 8 (128 + i.val) : Byte)
    let withState := fun n' : NoticeState => { s with link := { s.link with notices := s.link.notices.set e.requester n' } }
    (e.command = .readNotices → exec .readNotices s = .next (completed s e .ok
        [n.pending.setWidth 8, n.reported.setWidth 8, n.enable.setWidth 8, lastSlot n.lastExpired, lastSlot n.lastOverridden,
         lastSlot n.lastCommitted]))
    ∧ (∀ kinds : Byte, e.command = .setNoticeEnable kinds → kinds.toNat ≤ 63 →
        exec .setNoticeEnable s = .next (completed (withState { n with enable := kinds.setWidth 6 }) e .ok []))
    ∧ (∀ kinds : Byte, e.command = .setNoticeEnable kinds → 64 ≤ kinds.toNat → Answers .setNoticeEnable s e .range [])
    ∧ (∀ kinds : Byte, e.command = .clearNotices kinds → kinds.toNat ≤ 63 →
        exec .clearNotices s = .next (completed (withState { n with
          pending := n.pending &&& ~~~(kinds.setWidth 6 &&& n.reported)
          reported := n.reported &&& ~~~(kinds.setWidth 6) }) e .ok []))
    ∧ (∀ kinds : Byte, e.command = .clearNotices kinds → 64 ≤ kinds.toNat → Answers .clearNotices s e .range [])

/-! ### Identity and settings (R176) -/

/-- The read commands of the blocks (R85, R100, R117, R134, R163, R176): the state as it stands, nothing altered, in the bytes of Tables 10-7 to
10-9. READ RESOLVED gives one entry, or the ten in ascending subject order, with the fan cap when FAN_CAP is included; READ SETTINGS gives the
settings of the block named, or is refused RANGE. A settle remaining of 0 at the due count (log 20), and 0 in the bits that the tables leave unassigned
(log 24), are the model's choices. -/
def Obligations.BlockReads : Prop :=
  ∀ (s : State) (e : Execution), s.link.execution = some e →
    let byte := fun n : Nat => BitVec.ofNat 8 n
    let two := fun n : Nat => [byte (n / 2 ^ 8), byte n]
    let four := fun n : Nat => [byte (n / 2 ^ 24), byte (n / 2 ^ 16), byte (n / 2 ^ 8), byte n]
    let setOf := fun bits : List Bool => (bits.zipIdx.map fun p => p.1.toNat * 2 ^ p.2).sum
    let code := fun p : Posture => match p with | .desk => 0 | .lap => 1 | .bag => 2
    let units := fun p : ScanPeriod => match p with | .us500 => 1 | .us1000 => 2 | .us2000 => 4 | .us4000 => 8
    let entry := fun sub : Subject =>
      let x := s.resolver[sub]
      [byte sub.val, byte (setOf [x.limit.isSome, x.winner.isSome])] ++ two (match x.limit with | none => 0 | some l => l.toNat)
        ++ [byte (match x.winner with | none => 0 | some i => i.val), byte x.count]
    let p := s.posture
    let m := s.measure
    let g := s.governor
    let u := s.trip
    (e.command = .readProfile → Answers .readProfile s e .ok [0x06, 0x20, 1, byte s.profile.val])
    ∧ (e.command = .readPosture → Answers .readPosture s e .ok
        ([byte (code p.current), byte (code (rawPosture p.levels))]
        ++ (match p.settle with
            | none => [0, 0, 0, 0, 0]
            | some x => [byte (1 + 2 * code x.candidate + (match x.kind with | .strict => 0 | .loose => 8)
                + (match x.due with | none => 16 | some _ => 32))]
              ++ two x.duration.toNat ++ two (match x.due with | none => 0 | some due => (due - s.timebase.count).toNat))
        ++ [byte (setOf p.levels.toList), byte (setOf (p.captures.toList.map (·.isSome) ++ [p.lastChange.isSome]))]
        ++ p.captures.toList.flatMap (fun c => match c with | none => [0, 0, 0, 0] | some count => four count.toNat)
        ++ (match p.lastChange with | none => [0, 0, 0, 0, 0] | some (count, prior) => four count.toNat ++ [byte (code prior)])))
    ∧ (e.command = .readMeasure → Answers .readMeasure s e .ok
        (two (setOf (m.latest.toList.map (·.isSome))) ++ two (setOf (m.filters.toList.map (·.isSome)))
        ++ m.latest.toList.flatMap (fun c => two (match c with | none => 0 | some c => c.toNat))
        ++ m.filters.toList.flatMap (fun f => two (match f with | none => 0 | some f => f / 256))))
    ∧ (e.command = .readGovernor → Answers .readGovernor s e .ok
        (g.subjects.toList.map (fun x => byte x.pressure.val) ++ two (setOf (g.subjects.toList.map (·.saturated)))
        ++ g.targets.toList.map (fun l => byte l.val)))
    ∧ (e.command = .readTrip → Answers .readTrip s e .ok
        ([(match u.state with | .armed => 0 | .tripped => 1 | .stopping => 2 | .stopped => 3 | .off => 4)]
        ++ two u.active.toNat ++ two u.latched.toNat
        ++ (match u.capture with | none => [0, 0, 0, 0, 0] | some (count, src) => byte (128 + src.val) :: four count.toNat)
        ++ two u.saturated.toNat))
    ∧ (∀ subject : Byte, e.command = .readResolved subject →
      (∀ sub : Subject, subject.toNat = sub.val → sub ≠ 9 → Answers .readResolved s e .ok (entry sub))
      ∧ (subject = 9 → Answers .readResolved s e .ok (entry 9 ++ [byte (fanCapOf s.resolver[9]).val]))
      ∧ (subject = 0xFF → Answers .readResolved s e .ok ((List.finRange 10).flatMap entry ++ [byte (fanCapOf s.resolver[9]).val]))
      ∧ (9 < subject.toNat → subject ≠ 0xFF → Answers .readResolved s e .range []))
    ∧ ∀ block index : Byte, e.command = .readSettings block index →
      (block = 0 → index = 0 → Answers .readSettings s e .ok
        (s.commitTimers.toList.map fun x => byte (x.exponent.val + (match x.staged with | none => 0 | some n => 8 + 16 * n.val))))
      ∧ (block = 1 → index = 0 → Answers .readSettings s e .ok (two p.strictTime.toNat ++ two p.looseTime.toNat))
      ∧ (block = 2 → index = 0 → Answers .readSettings s e .ok
        ([byte (units m.scan.period), byte (match m.scan.staged with | none => 0 | some period => 128 + units period)]
        ++ (List.finRange 9).flatMap fun i => [m.gains[i], byte m.shifts[i].val]))
      ∧ (block = 3 → ∀ i : Measured, index.toNat = i.val → Answers .readSettings s e .ok
        (two g.subjects[i].hysteresis.toNat ++ two g.subjects[i].riseHold.toNat ++ two g.subjects[i].fallHold.toNat
        ++ [g.subjects[i].saturationTime] ++ g.routes[i].toList.map fun r => match r with | none => 0xFF | some offset => byte offset.val))
      ∧ (block = 4 → index = 0 → Answers .readSettings s e .ok (s.outputs.toList.flatMap fun o =>
        [o.period, (match o.staged with | none => 0 | some x => x),
          byte (setOf [o.staged.isSome, o.cutoff == .full, o.restart == .manual]
            + 8 * (match o.state with | .tracking => 0 | .forced => 1 | .releasing => 2))]
        ++ two o.mask.toNat ++ [byte o.applied.val]))
      ∧ (block = 5 → index = 0 → Answers .readSettings s e .ok
        (two u.enable.toNat ++ two u.stopClass.toNat ++ u.levels.toList.flatMap (fun l => two l.toNat) ++ [u.stopTimeout]))
      ∧ (block = 3 → 9 ≤ index.toNat → Answers .readSettings s e .range [])
      ∧ (block ≠ 3 → index ≠ 0 → Answers .readSettings s e .range [])
      ∧ (6 ≤ block.toNat → Answers .readSettings s e .range [])

/-! ### Table commands (chapter 2) -/

/-- PLACE accepted (R32): with every field in range, no record under its key, the quota not reached and slot i the lowest FREE one, the record
R32 gives stands in slot i, its subject is recomputed, and the response carries the slot. -/
def Obligations.PlaceCreatesRecord : Prop :=
  ∀ (s : State) (e : Execution) (f : PlaceFields) (sub : Subject) (cls : RecordClass) (lease : Option Nat) (i : SlotIx),
    s.link.execution = some e → e.command = .place f →
    f.subject.toNat = sub.val → (sub = 9 → f.bound.toNat ≤ 15) → 1 ≤ f.mask.toNat → f.mask.toNat ≤ 7 →
    f.cls = (match cls with | .ordinary => 0 | .anchored => 1) → (cls = .anchored → e.requester = 0 ∧ lease = none) →
    (lease = none → f.leaseFlag = 0 ∧ e.requester = 0) →
    (∀ n ∈ lease, f.leaseFlag = 1 ∧ f.lease.toNat = n ∧ 1 ≤ n ∧ n ≤ 43200) →
    (∀ (j : SlotIx) (q : Record), s.table[j] = some q → ¬ (q.owner = e.requester ∧ q.subject = sub ∧ q.tag = f.tag)) →
    (e.requester ≠ 0 → owned s.table e.requester < 12) →
    s.table[i] = none → (∀ j : SlotIx, j < i → s.table[j] ≠ none) →
    exec .place s = .next (completed
      (recompute
        { s with table := s.table.set i (some {
            state := .live, owner := e.requester, subject := sub, tag := f.tag, cls := cls, bound := f.bound, mask := f.mask.setWidth 3,
            pendingBound := none, pendingMask := none, lease := lease, generation := 0 }) }
        sub)
      e .ok [BitVec.ofNat 8 i.val])

/-- PLACE refused (R30, R31), in the order DENIED, RANGE, DUPLICATE, QUOTA, FULL; nothing is altered. -/
def Obligations.PlaceRefused : Prop :=
  ∀ (s : State) (e : Execution) (f : PlaceFields), s.link.execution = some e → e.command = .place f →
    let agent := e.requester ≠ 0
    let outOfRange := 9 < f.subject.toNat ∨ (f.subject = 9 ∧ 15 < f.bound.toNat) ∨ f.mask = 0 ∨ 7 < f.mask.toNat ∨ 1 < f.cls.toNat
      ∨ (f.leaseFlag = 0 ∧ agent) ∨ (f.leaseFlag = 1 ∧ (f.lease = 0 ∨ 43200 < f.lease.toNat)) ∨ (f.leaseFlag = 1 ∧ f.cls = 1)
      ∨ 1 < f.leaseFlag.toNat
    let sameKey := fun q : Record => q.owner = e.requester ∧ f.subject.toNat = q.subject.val ∧ q.tag = f.tag
    let freshKey := ∀ (j : SlotIx) (q : Record), s.table[j] = some q → ¬ sameKey q
    (f.cls = 1 → agent → Answers .place s e .denied [])
    ∧ (¬ (f.cls = 1 ∧ agent) → outOfRange → Answers .place s e .range [])
    ∧ (¬ (f.cls = 1 ∧ agent) → ¬ outOfRange →
      (∀ (i : SlotIx) (q : Record), s.table[i] = some q → sameKey q →
        (∀ (j : SlotIx) (x : Record), s.table[j] = some x → sameKey x → j = i) → Answers .place s e .duplicate [BitVec.ofNat 8 i.val])
      ∧ (freshKey → agent → 12 ≤ owned s.table e.requester → Answers .place s e .quota [])
      ∧ (freshKey → (agent → owned s.table e.requester < 12) → (∀ i : SlotIx, s.table[i] ≠ none) → Answers .place s e .full []))

/-- R34 and R35: the bound part of an accepted CHANGE is judged against the in-force bound and the mask part against the in-force mask; any pending
bound they leave is greater than the bound, any pending mask a strict non-empty subset of the mask. -/
def Obligations.ChangeSplitsTightAndLoose : Prop :=
  ∀ (bound : Half) (new : Mask) (r : Record),
    let r' := changed bound new r
    let contains := ∀ p : Posture, inMask r.mask p = true → inMask new p = true
    (bound.toNat < r.bound.toNat → r'.bound = bound ∧ r'.pendingBound = none)
    ∧ (bound = r.bound → r'.bound = r.bound ∧ r'.pendingBound = none)
    ∧ (r.bound.toNat < bound.toNat → r'.bound = r.bound ∧ r'.pendingBound = some bound)
    ∧ (∀ b ∈ r'.pendingBound, r'.bound.toNat < b.toNat)
    ∧ (contains → r'.mask = new ∧ r'.pendingMask = none)
    ∧ (¬ contains → (∀ p : Posture, inMask r'.mask p = (inMask r.mask p || inMask new p)) ∧ r'.pendingMask = some new)
    ∧ (new ≠ 0 → ∀ m ∈ r'.pendingMask, m ≠ 0 ∧ m ≠ r'.mask ∧ ∀ p : Posture, inMask m p = true → inMask r'.mask p = true)

/-- CHANGE accepted (R33 to R37): both parts are written, the generation advances exactly when one of the four fields differs, the subject is
recomputed exactly when an in-force value does, OVERRIDDEN is posted as R28 gives, and the status is STAGED while a part is pending. -/
def Obligations.ChangeAltersRecord : Prop :=
  ∀ (s : State) (e : Execution) (f : ChangeFields) (i : SlotIx) (r : Record),
    s.link.execution = some e → e.command = .change f → MayAlterSlot s e.requester f.key f.expect i r →
    (r.subject = 9 → f.bound.toNat ≤ 15) → 1 ≤ f.mask.toNat → f.mask.toNat ≤ 7 →
    ∃ r' : Record, r' = changed f.bound (f.mask.setWidth 3) r
      ∧ r' = { r with
          bound := r'.bound, mask := r'.mask, pendingBound := r'.pendingBound, pendingMask := r'.pendingMask
          generation := if r'.bound = r.bound ∧ r'.mask = r.mask ∧ r'.pendingBound = r.pendingBound ∧ r'.pendingMask = r.pendingMask
                        then r.generation else r.generation + 1 }
      ∧ exec .change s = .next (completed
          (if r'.bound = r.bound ∧ r'.mask = r.mask then altered s e.requester i r'
           else recompute (altered s e.requester i r') r.subject)
          e (if r'.pendingBound = none ∧ r'.pendingMask = none then .ok else .staged) [BitVec.ofNat 8 i.val, r'.generation])

/-- RENEW accepted (R39, R40): the lease is set, or removed by a lease of 0 from requester 0 on its own ORDINARY record; the generation advances;
no subject is recomputed. -/
def Obligations.RenewSetsLease : Prop :=
  ∀ (s : State) (e : Execution) (f : RenewFields) (i : SlotIx) (r : Record),
    s.link.execution = some e → e.command = .renew f → MayAlterSlot s e.requester f.key f.expect i r →
    f.lease.toNat ≤ 43200 → (f.lease = 0 → e.requester = 0 ∧ r.owner = 0) → r.cls = .ordinary →
    exec .renew s = .next (completed
      (altered s e.requester i { r with lease := if f.lease = 0 then none else some f.lease.toNat, generation := r.generation + 1 })
      e (if r.pendingBound = none ∧ r.pendingMask = none then .ok else .staged) [BitVec.ofNat 8 i.val, r.generation + 1])

/-- RETIRE accepted (R41, R42): the record is RETIRING without lease and pending parts, its generation advances, and its resolved entry comes out
the same; the status is STAGED. -/
def Obligations.RetireWithdrawsRecord : Prop :=
  ∀ (s : State) (e : Execution) (f : RetireFields) (i : SlotIx) (r : Record),
    ResolvedOk s → s.link.execution = some e → e.command = .retire f → MayAlterSlot s e.requester f.key f.expect i r →
    exec .retire s = .next (completed
      (altered s e.requester i { r with
        state := .retiring, lease := none, pendingBound := none, pendingMask := none, generation := r.generation + 1 })
      e .staged [BitVec.ofNat 8 i.val, r.generation + 1])

/-- CHANGE, RENEW and RETIRE refused after their first check (Table 2-3): NOT_FOUND, DENIED, RETIRING, STALE, with nothing altered; RENEW's
RANGE on the record comes between DENIED and RETIRING (R39). -/
def Obligations.KeyedCommandsRefused : Prop :=
  ∀ (s : State) (e : Execution) (status : Status) (payload : List Byte), s.link.execution = some e →
    (∀ f : ChangeFields, e.command = .change f → KeyInRange f.key → (f.key.subject = 9 → f.bound.toNat ≤ 15) → 1 ≤ f.mask.toNat →
      f.mask.toNat ≤ 7 → FlagOk f.expect.flag → KeyedRefusal s e.requester f.key f.expect status payload →
      Answers .change s e status payload)
    ∧ (∀ f : RetireFields, e.command = .retire f → KeyInRange f.key → FlagOk f.expect.flag →
      KeyedRefusal s e.requester f.key f.expect status payload → Answers .retire s e status payload)
    ∧ (∀ f : RenewFields, e.command = .renew f → KeyInRange f.key → FlagOk f.expect.flag → f.lease.toNat ≤ 43200 →
      (f.lease = 0 → e.requester = 0) →
      (∀ (i : SlotIx) (r : Record), HoldsKey s.table f.key i r → (e.requester = r.owner ∨ e.requester = 0) →
        (r.cls = .anchored ∨ (f.lease = 0 ∧ r.owner ≠ 0)) → Answers .renew s e .range [])
      ∧ (KeyedRefusal s e.requester f.key f.expect status payload →
        (∀ (i : SlotIx) (r : Record), HoldsKey s.table f.key i r → (e.requester = r.owner ∨ e.requester = 0) →
          r.cls = .ordinary ∧ (f.lease = 0 → r.owner = 0)) → Answers .renew s e status payload))

/-- The first check of the keyed commands and the checks of the reads: a field out of range is refused RANGE and nothing is altered (R33, R39,
R41, R43, R46, R47, R48). -/
def Obligations.TableCommandsRefusedRange : Prop :=
  ∀ (s : State) (e : Execution), s.link.execution = some e →
    (∀ f : ChangeFields, e.command = .change f → (¬ KeyInRange f.key ∨ (f.key.subject = 9 ∧ 15 < f.bound.toNat) ∨ f.mask = 0
      ∨ 7 < f.mask.toNat ∨ ¬ FlagOk f.expect.flag) → Answers .change s e .range [])
    ∧ (∀ f : RenewFields, e.command = .renew f → (¬ KeyInRange f.key ∨ 43200 < f.lease.toNat ∨ (f.lease = 0 ∧ e.requester ≠ 0)
      ∨ ¬ FlagOk f.expect.flag) → Answers .renew s e .range [])
    ∧ (∀ f : RetireFields, e.command = .retire f → (¬ KeyInRange f.key ∨ ¬ FlagOk f.expect.flag) → Answers .retire s e .range [])
    ∧ (∀ owner subject : Byte, e.command = .sweep owner subject → (7 < owner.toNat ∨ (9 < subject.toNat ∧ subject ≠ 0xFF)) →
      Answers .sweep s e .range [])
    ∧ (∀ k : KeyFields, e.command = .lookup k → ¬ KeyInRange k → Answers .lookup s e .range [])
    ∧ (∀ slot : Byte, e.command = .readSlot slot → 47 < slot.toNat → Answers .readSlot s e .range [])
    ∧ (∀ start : Byte, e.command = .list start → 47 < start.toNat → Answers .list s e .range [])

/-- SWEEP (R43 to R45, R28): every LIVE record of the owner and of the subject named, or of any, is RETIRING as under RETIRE; no other slot and no
resolved entry changes; OVERRIDDEN goes to an owner that requester 0 overrides, per record in slot order; the count is carried. A SWEEP of
another owner by an agent is DENIED. -/
def Obligations.SweepRetiresRecords : Prop :=
  ∀ (s : State) (e : Execution) (ownerByte subjectByte : Byte) (owner : Requester) (subject : Option Subject),
    s.link.execution = some e → e.command = .sweep ownerByte subjectByte → ownerByte.toNat = owner.val →
    ((subject = none ∧ subjectByte = 0xFF) ∨ ∃ sub, subject = some sub ∧ subjectByte.toNat = sub.val) →
    let marks := fun r : Record => r.state == .live && r.owner == owner && (subject == none || subject == some r.subject)
    (e.requester ≠ 0 → owner ≠ e.requester → Answers .sweep s e .denied [])
    ∧ (ResolvedOk s → (e.requester = 0 ∨ owner = e.requester) → ∃ (table : Table) (notices : Vector NoticeState 8) (count : Nat),
      count = ((List.finRange 48).filter fun i => s.table[i].any marks).length
      ∧ (∀ i : SlotIx, table[i] = s.table[i].map fun r => if marks r = true then
          { r with state := .retiring, lease := none, pendingBound := none, pendingMask := none, generation := r.generation + 1 } else r)
      ∧ (e.requester = 0 → owner ≠ 0 → PostedToOwners s.link.notices notices s.table marks .overridden)
      ∧ (¬ (e.requester = 0 ∧ owner ≠ 0) → notices = s.link.notices)
      ∧ exec .sweep s = .next (completed { s with table := table, link := { s.link with notices := notices } } e
          (if count = 0 then .ok else .staged) [BitVec.ofNat 8 count]))

/-- LOOKUP, READ SLOT and LIST (R46 to R48): the images of what stands, in the 14 bytes of Table 10-6, in ascending slot order for LIST, at most
three with the next slot; a FREE slot's image is its slot and zeros; no record is altered. Bits that the tables leave unassigned are
sent as 0 by the model's choice (log 24). -/
def Obligations.TableReads : Prop :=
  ∀ (s : State) (e : Execution), s.link.execution = some e →
    let byte := fun n : Nat => BitVec.ofNat 8 n
    let two := fun n : Nat => [byte (n / 2 ^ 8), byte n]
    let image := fun i : SlotIx => match s.table[i] with
      | none => byte i.val :: List.replicate 13 0
      | some r => [byte i.val, (match r.state with | .live => 1 | .retiring => 2), byte r.owner.val, byte r.subject.val, r.tag,
            byte ((match r.cls with | .ordinary => 0 | .anchored => 1) + 2 * r.pendingBound.isSome.toNat + 4 * r.pendingMask.isSome.toNat
              + 8 * r.lease.isSome.toNat
              + 16 * (r.mask.getLsbD (match s.posture.current with | .desk => 0 | .lap => 1 | .bag => 2)).toNat)]
          ++ two r.bound.toNat ++ two (match r.pendingBound with | none => 0 | some b => b.toNat)
          ++ [byte (r.mask.toNat + 16 * (match r.pendingMask with | none => 0 | some x => x.toNat))]
          ++ two (match r.lease with | none => 0 | some n => n) ++ [r.generation]
    (∀ (k : KeyFields) (i : SlotIx) (r : Record), e.command = .lookup k → HoldsKey s.table k i r → Answers .lookup s e .ok (image i))
    ∧ (∀ k : KeyFields, e.command = .lookup k → KeyInRange k → NoRecord s.table k → Answers .lookup s e .notFound [])
    ∧ (∀ (slot : Byte) (i : SlotIx), e.command = .readSlot slot → slot.toNat = i.val → Answers .readSlot s e .ok (image i))
    ∧ (∀ (start : Byte) (from_ : SlotIx) (found more : List SlotIx), e.command = .list start → start.toNat = from_.val →
      (found ++ more).Pairwise (· < ·) → (∀ i : SlotIx, i ∈ found ++ more ↔ from_ ≤ i ∧ s.table[i] ≠ none) →
      (found.length = 3 ∨ (found.length < 3 ∧ more = [])) →
      Answers .list s e .ok ([byte found.length, byte (match more.head? with | none => 0 | some i => 128 + i.val)] ++ found.flatMap image))

/-! ### Commits and leases (chapter 3) -/

/-- A commit timer's expiry (R55, R58, R59): RETIRING records of the subject are freed, pending parts of LIVE ones are taken into force with the
generation advanced, COMMITTED goes to their owners in slot order; the timer takes up a staged exponent and moves by the interval now in
force; a commit that treats nothing changes nothing else. The Governor is as it was unless the fan cap changes, and then the FAN target alone
moves, to the smaller of its demand and the new fan cap (R97). -/
def Obligations.CommitTakesPendingParts : Prop :=
  ∀ (s : State) (sub : Subject), s.commitTimers[sub].nextExpiry = s.timebase.count →
    let treated := fun r : Record => r.subject == sub && (r.state == .retiring || r.pendingBound.isSome || r.pendingMask.isSome)
    let n := s.commitTimers[sub].staged.getD s.commitTimers[sub].exponent
    ∃ t : State, exec (.commitTimerExpiry sub) s = .next t
      ∧ (∀ i : SlotIx, s.table[i] = none → t.table[i] = none)
      ∧ (∀ (i : SlotIx) (r : Record), s.table[i] = some r → treated r = false → t.table[i] = some r)
      ∧ (∀ (i : SlotIx) (r : Record), s.table[i] = some r → r.subject = sub → r.state = .retiring → t.table[i] = none)
      ∧ (∀ (i : SlotIx) (r : Record), s.table[i] = some r → treated r = true → r.state = .live →
          t.table[i] = some { r with
            bound := r.pendingBound.getD r.bound, mask := r.pendingMask.getD r.mask, pendingBound := none, pendingMask := none
            generation := r.generation + 1 })
      ∧ PostedToOwners s.link.notices t.link.notices s.table treated .committed
      ∧ t.commitTimers = s.commitTimers.set sub
          ⟨n, none, s.commitTimers[sub].nextExpiry + BitVec.ofNat 32 (125 * 2 ^ n.val)⟩
      ∧ (∀ sub' : Subject, sub' ≠ sub → t.resolver[sub'] = s.resolver[sub'])
      ∧ ((∃ i : SlotIx, ∃ r ∈ s.table[i], treated r = true) → t.resolver[sub] = computeEntry t.table s.posture.current sub)
      ∧ ((∀ i : SlotIx, ∀ r ∈ s.table[i], treated r = false) →
          t = { s with commitTimers := t.commitTimers })
      ∧ (t.fanCap = s.fanCap → t.governor = s.governor)
      ∧ (t.fanCap ≠ s.fanCap →
          t.governor.targets = s.governor.targets.set fanOutput (min (demand s.governor fanOutput) t.fanCap))
      ∧ t = { s with
          table := t.table
          commitTimers := t.commitTimers
          resolver := t.resolver
          governor := { s.governor with targets := t.governor.targets }
          link := { s.link with notices := t.link.notices } }

/-- SET COMMIT (R56), SET POSTURE (R83), SET SCAN (R104) and SET SENSE (R111): an exponent or a scan period other than the one in force is staged and
the one in force removes a staged one; settle times, gain and shift come into force; nothing else changes, and a field out of range is
refused RANGE with nothing written. -/
def Obligations.SettingsWritten : Prop :=
  ∀ (s : State) (e : Execution), s.link.execution = some e →
    (∀ (subject exponent : Byte) (sub : Subject) (n : Fin 8), e.command = .setCommit subject exponent →
      subject.toNat = sub.val → exponent.toNat = n.val →
      exec .setCommit s = .next (completed
        { s with commitTimers := s.commitTimers.set sub { s.commitTimers[sub] with
            staged := if n = s.commitTimers[sub].exponent then none else some n } }
        e .ok []))
    ∧ (∀ subject exponent : Byte, e.command = .setCommit subject exponent → 9 < subject.toNat ∨ 7 < exponent.toNat →
      Answers .setCommit s e .range [])
    ∧ (∀ (flags : Byte) (strict loose : Half), e.command = .setPosture flags strict loose →
      let strictPresent := flags.getLsbD 0 = true
      let loosePresent := flags.getLsbD 1 = true
      let strictOk := strict.toNat ≤ 2550 ∧ strict.toNat % 10 = 0
      let looseOk := loose.toNat ≤ 25500 ∧ loose.toNat % 100 = 0
      (flags.toNat ≤ 3 → (strictPresent → strictOk) → (loosePresent → looseOk) →
        exec .setPosture s = .next (completed
          { s with posture := { s.posture with
              strictTime := if flags.getLsbD 0 then strict else s.posture.strictTime
              looseTime := if flags.getLsbD 1 then loose else s.posture.looseTime } }
          e .ok []))
      ∧ (3 < flags.toNat ∨ (strictPresent ∧ ¬ strictOk) ∨ (loosePresent ∧ ¬ looseOk) → Answers .setPosture s e .range []))
    ∧ (∀ (units : Byte) (p : ScanPeriod), e.command = .setScan units →
      units = (match p with | .us500 => 1 | .us1000 => 2 | .us2000 => 4 | .us4000 => 8) →
      exec .setScan s = .next (completed
        { s with measure := { s.measure with scan := { s.measure.scan with
            staged := if p = s.measure.scan.period then none else some p } } }
        e .ok []))
    ∧ (∀ units : Byte, e.command = .setScan units → units ≠ 1 → units ≠ 2 → units ≠ 4 → units ≠ 8 → Answers .setScan s e .range [])
    ∧ (∀ (subject gain shift : Byte) (m : Measured) (k : Fin 13), e.command = .setSense subject gain shift → subject.toNat = m.val →
      shift.toNat = k.val → exec .setSense s = .next (completed
        { s with measure := { s.measure with gains := s.measure.gains.set m gain, shifts := s.measure.shifts.set m k } } e .ok []))
    ∧ (∀ subject gain shift : Byte, e.command = .setSense subject gain shift → 8 < subject.toNat ∨ 12 < shift.toNat →
      Answers .setSense s e .range [])

/-- A tick of the lease clock (R61, R62): a lease of 2 or more loses 1 and nothing else; a lease of 1 expires its record; EXPIRED goes to the
owners in slot order; the next tick falls 1000 ms later and, since an expired record still applies, no resolved entry changes. -/
def Obligations.LeaseTickCountsDown : Prop :=
  ∀ s : State, ResolvedOk s → TableOk s.table → s.leaseClock = s.timebase.count →
    ∃ t : State, exec .leaseTick s = .next t
      ∧ (∀ i : SlotIx, s.table[i] = none → t.table[i] = none)
      ∧ (∀ (i : SlotIx) (r : Record), s.table[i] = some r → r.lease = none → t.table[i] = some r)
      ∧ (∀ (i : SlotIx) (r : Record) (n : Nat), s.table[i] = some r → r.lease = some n → 2 ≤ n →
          t.table[i] = some { r with lease := some (n - 1) })
      ∧ (∀ (i : SlotIx) (r : Record), s.table[i] = some r → r.lease = some 1 →
          t.table[i] = some { r with
            state := .retiring, lease := none, pendingBound := none, pendingMask := none, generation := r.generation + 1 })
      ∧ PostedToOwners s.link.notices t.link.notices s.table (fun r => r.lease == some 1) .expired
      ∧ t = { s with table := t.table, leaseClock := s.leaseClock + 1000, link := { s.link with notices := t.link.notices } }

/-! ### Posture (chapter 4) -/

/-- The raw posture follows from LID, DOCK and CONTACT by Table 4-2 (R72). An edge of one of them (R70 to R75): the level is kept and captured.
A raw posture left as it was leaves the settle machine; one equal to the current posture cancels it; any other starts a new settle: STRICT
running, LOOSE held by MOTION or running, and one of 0 ms completes in the same event. That it does so at an edge that falls together with
others, where R79 says that the current posture is unchanged, is the model's choice of R75 over R79 (DESIGN CHOICE, log 21). -/
def Obligations.PostureEdgeActsOnSettle : Prop :=
  (∀ levels : Vector Bool 5, rawPosture levels =
    if levels[0] = false then (if levels[1] = true then .desk else .bag)
    else if levels[1] = false ∧ levels[2] = true then .lap else .desk)
  ∧ ∀ (s : State) (input : PostureInput) (level : Bool), s.posture.levels[inputIndex input] ≠ level →
    let kept : State := { s with posture := { s.posture with
      levels := s.posture.levels.set (inputIndex input) level
      captures := s.posture.captures.set (inputIndex input) (some s.timebase.count) } }
    let raw := rawPosture kept.posture.levels
    let settling := fun x : Settle => exec (.postureInputEdge input level) s =
      .next { kept with posture := { kept.posture with settle := some x } }
    (raw = rawPosture s.posture.levels → exec (.postureInputEdge input level) s = .next kept)
    ∧ (raw ≠ rawPosture s.posture.levels → raw = s.posture.current →
        exec (.postureInputEdge input level) s = .next { kept with posture := { kept.posture with settle := none } })
    ∧ (raw ≠ rawPosture s.posture.levels → postureIndex s.posture.current < postureIndex raw →
        (s.posture.strictTime ≠ 0 → settling ⟨raw, .strict, s.posture.strictTime,
          some (s.timebase.count + s.posture.strictTime.setWidth 32)⟩)
        ∧ (s.posture.strictTime = 0 → exec (.postureInputEdge input level) s = .next (changePosture kept raw)))
    ∧ (raw ≠ rawPosture s.posture.levels → postureIndex raw < postureIndex s.posture.current →
        (s.posture.levels[motionIndex] = true → settling ⟨raw, .loose, s.posture.looseTime, none⟩)
        ∧ (s.posture.levels[motionIndex] = false → s.posture.looseTime ≠ 0 → settling ⟨raw, .loose, s.posture.looseTime,
          some (s.timebase.count + s.posture.looseTime.setWidth 32)⟩)
        ∧ (s.posture.levels[motionIndex] = false → s.posture.looseTime = 0 →
          exec (.postureInputEdge input level) s = .next (changePosture kept raw)))

/-- R76: MOTION acts on a LOOSE settle and on nothing else: asserted it holds a running one, deasserted it restarts a held one from its full
duration; STEADY and STRICT are not reached. -/
def Obligations.MotionHoldsLooseSettle : Prop :=
  ∀ (s : State) (asserted : Bool), s.posture.levels[motionIndex] ≠ asserted →
    let kept : State := { s with posture := { s.posture with
      levels := s.posture.levels.set motionIndex asserted
      captures := s.posture.captures.set motionIndex (some s.timebase.count) } }
    (s.posture.settle = none → exec (.motionEdge asserted) s = .next kept)
    ∧ (∀ x, s.posture.settle = some x → x.kind = .strict → exec (.motionEdge asserted) s = .next kept)
    ∧ (∀ x, s.posture.settle = some x → x.kind = .loose → asserted = true →
        exec (.motionEdge asserted) s = .next { kept with posture := { kept.posture with settle := some { x with due := none } } })
    ∧ (∀ x, s.posture.settle = some x → x.kind = .loose → asserted = false → x.due = none → x.duration ≠ 0 →
        exec (.motionEdge asserted) s = .next { kept with posture := { kept.posture with
          settle := some { x with due := some (s.timebase.count + x.duration.setWidth 32) } } })
    ∧ (∀ x, s.posture.settle = some x → x.kind = .loose → asserted = false → x.due = none → x.duration = 0 →
        exec (.motionEdge asserted) s = .next (changePosture kept x.candidate))

/-- An edge of ADP_PRES (R71): the level is kept and captured; a falling edge is a spot-check request, taken by the sequencer as R112 gives. -/
def Obligations.AdapterEdgeRequestsSpotCheck : Prop :=
  ∀ (s : State) (present : Bool), s.posture.levels[adapterIndex] ≠ present →
    let kept : State := { s with posture := { s.posture with
      levels := s.posture.levels.set adapterIndex present
      captures := s.posture.captures.set adapterIndex (some s.timebase.count) } }
    let due := s.timebase.later 10
    let spot := fun resume => exec (.adpPresEdge present) s = .next { kept with measure := { kept.measure with sequencer := .spot due resume } }
    (present = true → exec (.adpPresEdge present) s = .next kept)
    ∧ (present = false →
      (s.measure.sequencer = .idle → spot none)
      ∧ (∀ left, s.measure.sequencer = .starting left → spot (some (.starting left)))
      ∧ (∀ c moment, s.measure.sequencer = .converting c moment → spot (some (.converting c)))
      ∧ (∀ c left, s.measure.sequencer = .gap c left → spot (some (.gap c left)))
      ∧ (∀ moment resume, s.measure.sequencer = .spot moment resume → exec (.adpPresEdge present) s = .next kept))

/-- The settle timer's expiry and the posture change it makes (R77, R78): the candidate is current, the capture holds the count and the posture
left, the machine is STEADY, every subject is recomputed against the new posture, POSTURE is posted to every requester, and no record, timer
or other block is touched but, where the fan cap changes, the FAN target, which becomes the smaller of its demand and the new fan cap (R97). -/
def Obligations.SettleExpiryChangesPosture : Prop :=
  ∀ (s : State) (x : Settle), s.posture.settle = some x → x.due = some s.timebase.count →
    ∃ t : State, exec .settleTimerExpiry s = .next t ∧ t = changePosture s x.candidate
      ∧ t.posture = { s.posture with
          current := x.candidate, settle := none, lastChange := some (s.timebase.count, s.posture.current) }
      ∧ (∀ sub : Subject, t.resolver[sub] = computeEntry s.table x.candidate sub)
      ∧ (t.fanCap = s.fanCap → t.governor = s.governor)
      ∧ (t.fanCap ≠ s.fanCap →
          t.governor.targets = s.governor.targets.set fanOutput (min (demand s.governor fanOutput) t.fanCap))
      ∧ (∀ r : Requester, t.link.notices[r] = { s.link.notices[r] with
          pending := s.link.notices[r].pending ||| Notice.bit .posture
          reported := s.link.notices[r].reported &&& ~~~(Notice.bit .posture) })
      ∧ t = { s with
          posture := t.posture
          resolver := t.resolver
          governor := { s.governor with targets := t.governor.targets }
          link := { s.link with notices := t.link.notices } }

/-! ### Resolution (chapter 5) -/

/-- A resolved entry (R88 to R91): UNBOUNDED with no winner exactly when no record of the subject applies; otherwise the smallest in-force bound
among those that apply, the lowest slot that holds it, and their number. Pending parts, leases, owners and states have no part in it. -/
def Obligations.EntryIsStrictestApplying : Prop :=
  ∀ (t : Table) (p : Posture) (sub : Subject),
    let counts := fun i : SlotIx => match t[i] with | none => false | some r => r.subject == sub && inMask r.mask p
    let entry := computeEntry t p sub
    entry.count = ((List.finRange 48).filter counts).length
    ∧ (entry.limit = none ↔ ∀ i : SlotIx, counts i = false)
    ∧ (entry.winner = none ↔ ∀ i : SlotIx, counts i = false)
    ∧ (∀ w : SlotIx, entry.winner = some w → counts w = true ∧ ∃ r : Record, t[w] = some r ∧ entry.limit = some r.bound
        ∧ ∀ (j : SlotIx) (q : Record), t[j] = some q → counts j = true →
          r.bound.toNat ≤ q.bound.toNat ∧ (q.bound = r.bound → w ≤ j))

/-- A recompute (R89, R92, R97): one entry is computed afresh; a changed fan cap recomputes the FAN target, and nothing else changes. The fan cap
is the FAN_CAP limit, or 15 when UNBOUNDED (R96). -/
def Obligations.RecomputeSetsOneEntry : Prop :=
  (∀ (s : State) (sub : Subject),
    let t := recompute s sub
    t.resolver = s.resolver.set sub (computeEntry s.table s.posture.current sub)
    ∧ t = { s with resolver := t.resolver, governor := { s.governor with targets := t.governor.targets } }
    ∧ (t.fanCap = s.fanCap → t.governor = s.governor)
    ∧ (t.fanCap ≠ s.fanCap → t.governor.targets =
        s.governor.targets.set fanOutput (min (demand s.governor fanOutput) t.fanCap)))
  ∧ (∀ entry : Entry, entry.limit = none → (fanCapOf entry).val = 15)
  ∧ (∀ (entry : Entry) (b : Half), entry.limit = some b → b.toNat ≤ 15 → (fanCapOf entry).val = b.toNat)

/-! ### Measurement (chapter 6) -/

/-- R107: an expiry of the scan timer offered to the sequencer starts a scan when it is IDLE, sets the resume point of a lone spot check, and is
lost otherwise; the timer takes up a staged period and moves by the period now in force (R103). -/
def Obligations.ScanTimerOffersScan : Prop :=
  ∀ s : State, s.measure.scan.next = s.timebase →
    let period := s.measure.scan.staged.getD s.measure.scan.period
    let becomes := fun q : Sequencer => exec .scanTimerExpiry s = .next { s with measure := { s.measure with
      scan := ⟨period, none, s.measure.scan.next.later
        (match period with | .us500 => 500 | .us1000 => 1000 | .us2000 => 2000 | .us4000 => 4000)⟩
      sequencer := q } }
    (s.measure.sequencer = .idle → becomes (.starting 2))
    ∧ (∀ left, s.measure.sequencer = .starting left → becomes (.starting left))
    ∧ (∀ c due, s.measure.sequencer = .converting c due → becomes (.converting c due))
    ∧ (∀ c left, s.measure.sequencer = .gap c left → becomes (.gap c left))
    ∧ (∀ due, s.measure.sequencer = .spot due none → becomes (.spot due (some (.starting 2))))
    ∧ (∀ due x, s.measure.sequencer = .spot due (some x) → becomes (.spot due (some x)))

/-- What the completion of a channel with a code leaves (R101, R102, R108 to R110): the latest code, one filter update for each subject the
channel feeds with its gain and shift in force, and one evaluation of each at its reported value and effective limit; every other code, filter
and subject of the Governor is as it was, and no record, timer, posture or entry is touched. `completion` is the completion with no reader of the
targets within it; SequencerSteps says which rows take it. -/
def Obligations.CompletionMeasures : Prop :=
  ∀ (s : State) (c : Channel) (code : BitVec 10),
    let t := completion s c code
    let fed := fun m : Measured => (c = 0 ∧ m.val ≤ 1) ∨ (1 ≤ c.val ∧ c.val ≤ 7 ∧ m.val = c.val + 1)
    let sample := fun m : Measured => code.toNat * s.measure.gains[m].toNat * 8
    let shift := fun m : Measured => 2 ^ s.measure.shifts[m].val
    t.measure = { s.measure with latest := s.measure.latest.set c (some code), filters := t.measure.filters }
    ∧ (∀ m : Measured, ¬ fed m → t.measure.filters[m] = s.measure.filters[m] ∧ t.governor.subjects[m] = s.governor.subjects[m])
    ∧ (∀ m : Measured, fed m → ∃ f : Nat, t.measure.filters[m] = some f
        ∧ (s.measure.filters[m] = none → f = sample m)
        ∧ (∀ old, s.measure.filters[m] = some old → old ≤ sample m → f = old + (sample m - old) / shift m)
        ∧ (∀ old, s.measure.filters[m] = some old → sample m < old → f = old - (old - sample m) / shift m)
        ∧ t.governor.subjects[m] = judgeRun s.timebase.count s.resolver[m.castSucc].limit (f / 256)
            (stepPressure s.timebase.count s.resolver[m.castSucc].limit (f / 256) s.governor.subjects[m]))
    ∧ t = { s with
        measure := t.measure
        governor := { s.governor with subjects := t.governor.subjects, targets := t.governor.targets }
        outputs := t.outputs
        trip := t.trip
        link := { s.link with notices := t.link.notices }
        fresh := t.fresh }

/-- The steps of a scan (R106): a start or a gap that runs out begins its conversion, due 10 us later. The completion of a scan conversion is that
of its channel; the sequencer enters the gap before the next channel with 1 us left, or IDLE after CH8. A spot conversion (R112) completes as one
of CH3, and the sequencer enters its resume point; a step resumed with 0 us left begins its conversion. Where a reader of the targets stands at
the moment of a CH0 completion, a period end or a READ GOVERNOR in execution, it may be taken within it, and between the two evaluations it sees
one step made and not the other; after both, filters, Governor and Trip Unit are as without a reader, but for the first-trip capture (R125; that
the readers are taken in this one row is the model's choice, logs 7 and 19). -/
def Obligations.SequencerSteps : Prop :=
  ∀ (s : State) (code : BitVec 10),
    let after := fun (t : State) (q : Sequencer) => ({ t with measure := { t.measure with sequencer := q } } : State)
    let now := s.timebase
    (s.measure.sequencer = .starting 0 → exec .startStepEnd s = .next (after s (.converting 0 (now.later 10))))
    ∧ (∀ c : Channel, s.measure.sequencer = .gap c 0 → exec .gapEnd s = .next (after s (.converting c (now.later 10))))
    ∧ (∀ c next : Channel, s.measure.sequencer = .converting c now → next.val = c.val + 1 →
      (c = 0 → (∀ ix : OutputIx, s.outputs[ix].nextEnd ≠ now) ∧ ∀ e ∈ s.link.execution, e.command ≠ .readGovernor) →
      exec (.conversionCompletion code) s = .next (after (completion s c code) (.gap next 1)))
    ∧ (s.measure.sequencer = .converting 0 now → ∃ t : State, exec (.conversionCompletion code) s = .next (after t (.gap 1 1))
      ∧ (t = completion s 0 code ∨ ∃ readers order : List CompletionPart,
          order.Perm ([.evaluation 0, .evaluation 1, .judgement] ++ readers) ∧ readers.Nodup
          ∧ (∀ x ∈ readers, (∃ ix : OutputIx, x = .periodEnd ix ∧ s.outputs[ix].nextEnd = now)
              ∨ (x = .readGovernor ∧ ∃ e ∈ s.link.execution, e.command = .readGovernor))
          ∧ t = { order.foldl (takePart code) { s with measure := { s.measure with latest := s.measure.latest.set 0 (some code) } } with
              fresh := t.fresh })
      ∧ (ActiveOk s → TripOk s.trip → t.measure = (completion s 0 code).measure ∧ t.governor = (completion s 0 code).governor
          ∧ t.trip = { (completion s 0 code).trip with capture := t.trip.capture }))
    ∧ (∀ ix : OutputIx, s.outputs[ix].state ≠ .forced → (takePart code s (.periodEnd ix)).outputs[ix].applied = s.governor.targets[ix])
    ∧ (∀ e : Execution, s.link.execution = some e → e.command = .readGovernor →
      exec .readGovernor s = .next (takePart code s .readGovernor))
    ∧ (∀ ix : OutputIx, s.outputs[ix].nextEnd = now → exec (.periodEnd ix) s = .next (takePart code s (.periodEnd ix)))
    ∧ (∀ m m' : Measured, TargetsOk s → m ≠ m' →
      let t := takePart code s (.evaluation m)
      TargetsOk t ∧ t.governor.subjects[m'] = s.governor.subjects[m']
      ∧ ∃ f : Nat, t.measure.filters[m] = some f ∧ t.governor.subjects[m] = judgeRun now.count s.resolver[m.castSucc].limit (f / 256)
          (stepPressure now.count s.resolver[m.castSucc].limit (f / 256) s.governor.subjects[m]))
    ∧ (s.measure.sequencer = .converting 8 now → exec (.conversionCompletion code) s = .next (after (completion s 8 code) .idle))
    ∧ (s.measure.sequencer = .spot now none → exec (.spotCompletion code) s = .next (after (completion s 3 code) .idle))
    ∧ (∀ left, left ≠ 0 → s.measure.sequencer = .spot now (some (.starting left)) →
      exec (.spotCompletion code) s = .next (after (completion s 3 code) (.starting left)))
    ∧ (∀ c left, left ≠ 0 → s.measure.sequencer = .spot now (some (.gap c left)) →
      exec (.spotCompletion code) s = .next (after (completion s 3 code) (.gap c left)))
    ∧ (s.measure.sequencer = .spot now (some (.starting 0)) →
      exec (.spotCompletion code) s = .next (after (completion s 3 code) (.converting 0 (now.later 10))))
    ∧ (∀ c, s.measure.sequencer = .spot now (some (.gap c 0)) ∨ s.measure.sequencer = .spot now (some (.converting c)) →
      exec (.spotCompletion code) s = .next (after (completion s 3 code) (.converting c (now.later 10))))

/-! ### The Governor (chapter 7) -/

/-- R123: the pressure step of an evaluation. Above and below 15 it rises by 1 when the rise hold has elapsed, below and above 0 it falls by 1 when
the fall hold has; a step takes the count as the time of last change; one 65536 ms old is removed; nothing else of the subject changes. -/
def Obligations.PressureSteps : Prop :=
  ∀ (now : Count) (limit : Option Half) (v : Nat) (g : Governed),
    let above := ∃ l, limit = some l ∧ l.toNat < v
    let below := ∀ l, limit = some l → v + g.hysteresis.toNat < l.toNat
    let since := fun hold : Half => ∀ t, g.lastStep = some t → hold.toNat ≤ (now - t).toNat
    let g' := stepPressure now limit v g
    g' = { g with pressure := g'.pressure, lastStep := g'.lastStep }
    ∧ (above → g.pressure.val < 15 → since g.riseHold → g'.pressure.val = g.pressure.val + 1 ∧ g'.lastStep = some now)
    ∧ (below → 0 < g.pressure.val → since g.fallHold → g'.pressure.val + 1 = g.pressure.val ∧ g'.lastStep = some now)
    ∧ (¬ (above ∧ g.pressure.val < 15 ∧ since g.riseHold) → ¬ (below ∧ 0 < g.pressure.val ∧ since g.fallHold) →
        g'.pressure = g.pressure
        ∧ g'.lastStep = (match g.lastStep with
            | none => none
            | some t => if 65536 ≤ (now - t).toNat then none else some t))

/-- R126: the saturation run judged from the pressure after the step and the above condition: it begins, continues with the flag set once it has
lasted a saturation time that is not 0, or ends with the flag cleared; nothing else of the subject changes. -/
def Obligations.SaturationRuns : Prop :=
  ∀ (now : Count) (limit : Option Half) (v : Nat) (g : Governed),
    let held := g.pressure = 15 ∧ ∃ l, limit = some l ∧ l.toNat < v
    let g' := judgeRun now limit v g
    (held → g.runStart = none → g' = { g with runStart := some now })
    ∧ (∀ start, held → g.runStart = some start → g.saturationTime ≠ 0 → 16 * g.saturationTime.toNat ≤ (now - start).toNat →
        g' = { g with saturated := true })
    ∧ (∀ start, held → g.runStart = some start →
        (g.saturationTime = 0 ∨ (now - start).toNat < 16 * g.saturationTime.toNat) → g' = g)
    ∧ (¬ held → g.runStart = none → g' = g)
    ∧ (¬ held → g.runStart ≠ none → g' = { g with runStart := none, saturated := false })

/-- The target level of an actuator (R129): the largest, over the subjects routed to it, of the pressure less the offset, not below 0; for FAN no
more than the fan cap. -/
def Obligations.TargetIsLargestDemand : Prop :=
  ∀ (g : Governor) (cap : Level) (a : OutputIx),
    let makes := fun m : Measured => match g.routes[m][a] with | none => 0 | some offset => g.subjects[m].pressure.val - offset.val
    (∀ m : Measured, makes m ≤ (demand g a).val)
    ∧ ((demand g a).val = 0 ∨ ∃ m : Measured, makes m = (demand g a).val)
    ∧ (a ≠ fanOutput → targetLevel g cap a = demand g a)
    ∧ (targetLevel g cap fanOutput).val = min (demand g fanOutput).val cap.val

/-- SET GOVERN (R131, R132) writes four settings; one that names another saturation time ends the run unless the time in force is 0, and a flag it
clears is handed to the Trip Unit. SET ROUTE (R133) writes one entry and recomputes the actuator's target. A field out of range is refused RANGE. -/
def Obligations.GovernorCommands : Prop :=
  ∀ (s : State) (e : Execution), s.link.execution = some e →
    (∀ (f : GovernFields) (m : Measured), e.command = .setGovern f → f.subject.toNat = m.val → f.riseHold ≠ 0 → f.fallHold ≠ 0 →
      let g := s.governor.subjects[m]
      let written := fun g' : Governed => ({ s with governor := { s.governor with subjects := s.governor.subjects.set m { g' with
        hysteresis := f.hysteresis, riseHold := f.riseHold, fallHold := f.fallHold, saturationTime := f.saturationTime } } } : State)
      (f.saturationTime = g.saturationTime ∨ g.saturationTime = 0 → exec .setGovern s = .next (completed (written g) e .ok []))
      ∧ (f.saturationTime ≠ g.saturationTime → g.saturationTime ≠ 0 → g.saturated = false →
          exec .setGovern s = .next (completed (written { g with runStart := none, saturated := false }) e .ok []))
      ∧ (f.saturationTime ≠ g.saturationTime → g.saturationTime ≠ 0 → g.saturated = true →
          exec .setGovern s = .next (completed (handSaturated (written { g with runStart := none, saturated := false })) e .ok [])))
    ∧ (∀ f : GovernFields, e.command = .setGovern f → 8 < f.subject.toNat ∨ f.riseHold = 0 ∨ f.fallHold = 0 →
      Answers .setGovern s e .range [])
    ∧ (∀ (subject actuator entry : Byte) (m : Measured) (a : OutputIx) (route : Option Level),
      e.command = .setRoute subject actuator entry → subject.toNat = m.val → actuator.toNat = a.val →
      (entry = 0xFF ∧ route = none) ∨ (∃ x : Level, entry.toNat = x.val ∧ route = some x) →
      let g : Governor := { s.governor with routes := s.governor.routes.set m (s.governor.routes[m].set a route) }
      exec .setRoute s = .next (completed
        { s with governor := { g with targets := g.targets.set a (targetLevel g s.fanCap a) } } e .ok []))
    ∧ (∀ subject actuator entry : Byte, e.command = .setRoute subject actuator entry →
      8 < subject.toNat ∨ 3 < actuator.toNat ∨ (15 < entry.toNat ∧ entry ≠ 0xFF) → Answers .setRoute s e .range [])

/-! ### The outputs (chapter 8) -/

/-- A period end (R138, R140, R142, R143): a staged period is taken up and the next end is one period in force later; a TRACKING or RELEASING output
takes its actuator's target and tracks, a FORCED one takes no level; the other outputs and the rest are untouched. A moment so
many microseconds later has the count moved by the whole milliseconds, modulo 2^32, and the microsecond within the millisecond (R52, R103), and
`microsUntil` is the distance between the two across the wrap. -/
def Obligations.PeriodEndTakesTarget : Prop :=
  (∀ (m : Moment) (n : Nat),
    (m.later n).count.toNat = (m.count.toNat + (m.micro.val + n) / 1000) % 2 ^ 32
    ∧ (m.later n).micro.val = (m.micro.val + n) % 1000
    ∧ (n < 2 ^ 32 * 1000 → microsUntil m (m.later n) = n))
  ∧ ∀ (s : State) (ix : OutputIx), s.outputs[ix].nextEnd = s.timebase →
    let o := s.outputs[ix]
    let period := o.staged.getD o.period
    let timed : Output := { o with period := period, staged := none, nextEnd := o.nextEnd.later (16 * period.toNat) }
    (o.state = .forced → exec (.periodEnd ix) s = .next { s with outputs := s.outputs.set ix timed })
    ∧ (o.state ≠ .forced → exec (.periodEnd ix) s = .next { s with
        outputs := s.outputs.set ix { timed with applied := s.governor.targets[ix], state := .tracking } })

/-- A hand-over of the Trip Unit's sets (R141 to R143): every output judges its condition, AUTO from the active set and MANUAL from the latched set;
true forces it, false makes a FORCED one RELEASING and reaches no other. -/
def Obligations.HandOverForcesAndReleases : Prop :=
  ∀ (s : State) (ix : OutputIx),
    let o := s.outputs[ix]
    let o' := (handOver s).outputs[ix]
    let met := ∃ src : Source, o.mask.getLsbD src.val = true
      ∧ (match o.restart with | .auto => s.trip.active | .manual => s.trip.latched).getLsbD src.val = true
    (met → o' = { o with state := .forced })
    ∧ (¬ met → o.state = .forced → o' = { o with state := .releasing })
    ∧ (¬ met → o.state ≠ .forced → o' = o)
    ∧ handOver s = { s with outputs := (handOver s).outputs }

/-- R139: the pulse of a TRACKING output. The pin is asserted from the start of its period for the applied level, or on CHG_SET for 15 less it, times a
sixteenth of the period; a forced output's pin stands at its cutoff level (R142). -/
def Obligations.PulseFollowsAppliedLevel : Prop :=
  ∀ (now : Moment) (ix : OutputIx) (o : Output) (since : Nat),
    since < 16 * o.period.toNat → microsUntil now o.nextEnd = 16 * o.period.toNat - since →
    (o.state = .tracking → ix ≠ chargeOutput → (pinAsserted now ix o = true ↔ since < o.applied.val * (16 * o.period.toNat / 16)))
    ∧ (o.state = .tracking → ix = chargeOutput → (pinAsserted now ix o = true ↔ since < (15 - o.applied.val) * (16 * o.period.toNat / 16)))
    ∧ (o.state ≠ .tracking → (pinAsserted now ix o = true ↔ o.cutoff = .full))

/-- SET OUTPUT (R145, R146): the period is staged unless it is the one in force, the other settings are in force at once, and the force condition is
judged from them and the Trip Unit's sets; a field out of range is refused RANGE. -/
def Obligations.SetOutputActsAtOnce : Prop :=
  ∀ (s : State) (e : Execution) (f : OutputFields), s.link.execution = some e → e.command = .setOutput f →
    (∀ (ix : OutputIx) (cutoff : Cutoff) (restart : Restart), f.output.toNat = ix.val → f.period ≠ 0 →
      f.cutoff = (match cutoff with | .zero => 0 | .full => 1) → f.mask.toNat < 2048 →
      f.restart = (match restart with | .auto => 0 | .manual => 1) →
      let o := s.outputs[ix]
      let mask : SourceSet := f.mask.setWidth 11
      let written : Output := { o with
        staged := if f.period = o.period then none else some f.period, cutoff := cutoff, mask := mask, restart := restart }
      let met := mask &&& (match restart with | .auto => s.trip.active | .manual => s.trip.latched) ≠ 0
      let becomes := fun o' => exec .setOutput s = .next (completed { s with outputs := s.outputs.set ix o' } e .ok [])
      (met → becomes { written with state := .forced })
      ∧ (¬ met → o.state = .forced → becomes { written with state := .releasing })
      ∧ (¬ met → o.state ≠ .forced → becomes written))
    ∧ (3 < f.output.toNat ∨ f.period = 0 ∨ 1 < f.cutoff.toNat ∨ 2048 ≤ f.mask.toNat ∨ 1 < f.restart.toNat →
      Answers .setOutput s e .range [])

/-! ### The Trip Unit (chapter 9) -/

/-- An edge of OVERTEMP (R151 to R155). Disabled, it keeps the level alone. Deasserted it falls: only the active set loses it. Asserted and already
latched, it joins the active set alone. Asserted and not latched, it is latched, captured when it is the first, posts TRIP to every requester,
and moves the state: to TRIPPED, or when stop-class to STOPPING with the stop timer running, or to STOPPED when STOP_ACK is asserted. Every
change of a set is handed to the outputs. -/
def Obligations.OvertempEdgeTrips : Prop :=
  ∀ (s : State) (asserted : Bool), s.trip.overtemp ≠ asserted → ActiveOk s →
    let bit := sourceBit overtempSource
    let enabled := s.trip.enable.getLsbD 9 = true
    let kept : TripUnit := { s.trip with overtemp := asserted }
    let goes := fun t : State => exec (.overtempEdge asserted) s = .next t
    let risen : TripUnit := { kept with
      active := kept.active ||| bit
      latched := kept.latched ||| bit
      capture := if kept.latched = 0 then some (s.timebase.count, overtempSource) else kept.capture }
    let tripped := fun t : TripUnit => goes (postAll (handOver { s with trip := t }) .trip)
    let stopClass := s.trip.stopClass.getLsbD 9 = true
    let early := s.trip.state = .armed ∨ s.trip.state = .tripped
    (¬ enabled → goes { s with trip := kept })
    ∧ (enabled → asserted = false → goes (handOver { s with trip := { kept with active := kept.active &&& ~~~bit } }))
    ∧ (enabled → asserted = true → s.trip.latched.getLsbD 9 = true →
        goes (handOver { s with trip := { kept with active := kept.active ||| bit } }))
    ∧ (enabled → asserted = true → s.trip.latched.getLsbD 9 = false →
      (¬ early → tripped risen)
      ∧ (early → ¬ stopClass → tripped { risen with state := .tripped })
      ∧ (early → stopClass → s.trip.stopAck = true → tripped { risen with state := .stopped })
      ∧ (early → stopClass → s.trip.stopAck = false → tripped { risen with
          state := .stopping, stopTimer := some (s.timebase.count + s.trip.stopTimeout.setWidth 32) }))

/-- A conversion's code and its channel's trip source (R150, R151): after the completion the source is active exactly when it is enabled and the code
meets its level, at or above for CH0-CH7 and below for CH8; SAT follows the saturated set; no other source changes. The sources that became
active and were not latched, of the channel's and SAT alone, are latched, the first of them captured when none was latched (either, where both
rise: log 7), TRIP goes to every requester, and the state moves: to TRIPPED, or when one is stop-class to STOPPING with the stop timer running,
or to STOPPED when STOP_ACK is asserted (R152 to R155); the sets are handed to the outputs (R141). The Governor's hand-over of the saturated set
judges SAT alone in the same way (R127, R151). -/
def Obligations.CompletionJudgesChannelSource : Prop :=
  (∀ (s : State) (c : Channel) (code : BitVec 10), ActiveOk s → TripOk s.trip →
    let t := completion s c code
    let new := t.trip.latched &&& ~~~s.trip.latched
    let early := s.trip.state = .armed ∨ s.trip.state = .tripped
    let stays := t.trip.stopTimer = s.trip.stopTimer
    (t.trip.active.getLsbD c.val = true ↔ s.trip.enable.getLsbD c.val = true
      ∧ (if c = 8 then code.toNat < s.trip.levels[c].toNat else s.trip.levels[c].toNat ≤ code.toNat))
    ∧ (∀ x : Channel, x ≠ c → t.trip.active.getLsbD x.val = s.trip.active.getLsbD x.val)
    ∧ t.trip.active.getLsbD 9 = s.trip.active.getLsbD 9
    ∧ (t.trip.active.getLsbD 10 = true ↔ s.trip.enable.getLsbD 10 = true ∧ ∃ m : Measured, t.governor.subjects[m].saturated = true)
    ∧ (∀ m : Measured, t.trip.saturated.getLsbD m.val = t.governor.subjects[m].saturated)
    ∧ (∀ src : Source, t.trip.active.getLsbD src.val = true → t.trip.latched.getLsbD src.val = true)
    ∧ (∀ src : Source, s.trip.latched.getLsbD src.val = true → t.trip.latched.getLsbD src.val = true)
    ∧ t.trip.latched = s.trip.latched ||| (t.trip.active &&& ~~~s.trip.active)
    ∧ (new = 0 ∨ ¬ early → t.trip.state = s.trip.state ∧ stays)
    ∧ (new ≠ 0 → early → t.trip.stopClass &&& new = 0 → t.trip.state = .tripped ∧ stays)
    ∧ (early → t.trip.stopClass &&& new ≠ 0 → s.trip.stopAck = true → t.trip.state = .stopped ∧ stays)
    ∧ (early → t.trip.stopClass &&& new ≠ 0 → s.trip.stopAck = false →
        t.trip.state = .stopping ∧ t.trip.stopTimer = some (s.timebase.count + s.trip.stopTimeout.setWidth 32))
    ∧ (new = 0 ∨ s.trip.latched ≠ 0 → t.trip.capture = s.trip.capture)
    ∧ (new ≠ 0 → s.trip.latched = 0 →
        ∃ src : Source, new.getLsbD src.val = true ∧ t.trip.capture = some (s.timebase.count, src))
    ∧ (new = 0 → t.link = s.link)
    ∧ (new ≠ 0 → ∀ r : Requester, t.link.notices[r] = s.link.notices[r].take .trip)
    ∧ (OutputsOk s → ∀ ix : OutputIx, t.outputs[ix] = judgeOutput t.trip.active t.trip.latched s.outputs[ix])
    ∧ t.trip = { s.trip with
        state := t.trip.state, active := t.trip.active, latched := t.trip.latched, capture := t.trip.capture
        stopTimer := t.trip.stopTimer, saturated := t.trip.saturated })
  ∧ ∀ s : State,
    let bit := sourceBit satSource
    let set : BitVec 9 := saturatedSet s.governor
    let on := s.trip.enable.getLsbD 10 = true ∧ ∃ m : Measured, s.governor.subjects[m].saturated = true
    let was := s.trip.active.getLsbD 10 = true
    let kept : TripUnit := { s.trip with saturated := set }
    let risen : TripUnit := { kept with
      active := kept.active ||| bit
      latched := kept.latched ||| bit
      capture := if kept.latched = 0 then some (s.timebase.count, satSource) else kept.capture }
    let tripped := fun t : TripUnit => handSaturated s = postAll (handOver { s with trip := t }) .trip
    let stopClass := s.trip.stopClass.getLsbD 10 = true
    let early := s.trip.state = .armed ∨ s.trip.state = .tripped
    (∀ m : Measured, set.getLsbD m.val = s.governor.subjects[m].saturated)
    ∧ ((on ↔ was) → handSaturated s = { s with trip := kept })
    ∧ (¬ on → was → handSaturated s = handOver { s with trip := { kept with active := kept.active &&& ~~~bit } })
    ∧ (on → ¬ was → s.trip.latched.getLsbD 10 = true →
        handSaturated s = handOver { s with trip := { kept with active := kept.active ||| bit } })
    ∧ (on → ¬ was → s.trip.latched.getLsbD 10 = false →
      (¬ early → tripped risen)
      ∧ (early → ¬ stopClass → tripped { risen with state := .tripped })
      ∧ (early → stopClass → s.trip.stopAck = true → tripped { risen with state := .stopped })
      ∧ (early → stopClass → s.trip.stopAck = false → tripped { risen with
          state := .stopping, stopTimer := some (s.timebase.count + s.trip.stopTimeout.setWidth 32) }))

/-- R156: each change of the level of STOP_ACK keeps the new level; asserted in STOPPING it makes the state STOPPED and the stop timer idle; it has no
other effect. R157: the stop timer's expiry in STOPPING makes the state OFF and the timer idle, with OFF_REQ asserted and STOP_REQ still asserted
(R153), and nothing else. -/
def Obligations.StopHandshakeEnds : Prop :=
  (∀ (s : State) (asserted : Bool), s.trip.stopAck ≠ asserted →
    (asserted = true → s.trip.state = .stopping → exec (.stopAckEdge asserted) s =
      .next { s with trip := { s.trip with stopAck := true, state := .stopped, stopTimer := none } })
    ∧ (asserted = false ∨ s.trip.state ≠ .stopping → exec (.stopAckEdge asserted) s =
      .next { s with trip := { s.trip with stopAck := asserted } }))
  ∧ ∀ s : State, s.trip.state = .stopping → s.trip.stopTimer = some s.timebase.count →
    ∃ t : State, exec .stopTimerExpiry s = .next t ∧ t = { s with trip := { s.trip with state := .off, stopTimer := none } }
      ∧ offReq t.trip = true ∧ stopReq t.trip = true

/-- RESUME (R159) by the state: OK without effect in ARMED; in TRIPPED and STOPPED ACTIVE while a latched source is active, else the latched set is
emptied, the state is ARMED and the sets are handed over; TRIP_BUSY in STOPPING; TRIP_OFF in OFF. -/
def Obligations.ResumeReturnsToArmed : Prop :=
  ∀ (s : State) (e : Execution), s.link.execution = some e → e.command = .resume →
      (s.trip.state = .armed → Answers .resume s e .ok [])
      ∧ (s.trip.state = .stopping → Answers .resume s e .tripBusy [])
      ∧ (s.trip.state = .off → Answers .resume s e .tripOff [])
      ∧ (s.trip.state = .tripped ∨ s.trip.state = .stopped →
        (s.trip.latched &&& s.trip.active ≠ 0 → Answers .resume s e .active [])
        ∧ (s.trip.latched &&& s.trip.active = 0 → exec .resume s =
            .next (completed (handOver { s with trip := { s.trip with state := .armed, latched := 0 } }) e .ok [])))

/-- SET TRIP (R161, R162): its settings come into force and every source is judged afresh in the same event; reserved bits and a stop timeout of 0
are refused RANGE. After it the active set is the enabled sources whose condition holds under the new settings; those that rose are latched,
move the state and post TRIP as R152 to R155 give, the first of them, in the order CH0 to CH8, OVERTEMP, SAT, captured when none was latched; a
change is handed to the outputs. -/
def Obligations.SetTripJudgesAllSources : Prop :=
  ∀ (s : State) (e : Execution) (w : BitVec 128), s.link.execution = some e → e.command = .setTrip w →
    let reserved := (List.range 128).any fun i => (i == 22 || i == 23 || decide (122 ≤ i)) && w.getMsbD i
    let timeout := w.extractLsb' 96 8
    (reserved = true ∨ timeout = 0 → Answers .setTrip s e .range [])
    ∧ (reserved = false → timeout ≠ 0 → ∃ u : State, exec .setTrip s = .next (completed u e .ok [])
      ∧ (∀ src : Source, u.trip.enable.getLsbD src.val = w.getMsbD src.val ∧ u.trip.stopClass.getLsbD src.val = w.getMsbD (11 + src.val))
      ∧ (∀ (c : Channel) (k : Fin 10), u.trip.levels[c].getMsbD k.val = w.getMsbD (32 + 10 * c.val + k.val))
      ∧ u.trip.stopTimeout = timeout
      ∧ u.trip.active = judgedSet u.trip s.measure.latest
      ∧ u.trip.latched = s.trip.latched ||| (u.trip.active &&& ~~~s.trip.active)
      ∧ u.trip.overtemp = s.trip.overtemp ∧ u.trip.stopAck = s.trip.stopAck ∧ u.trip.saturated = s.trip.saturated
      ∧ (let new := u.trip.latched &&& ~~~s.trip.latched
         let early := s.trip.state = .armed ∨ s.trip.state = .tripped
         let stays := u.trip.stopTimer = s.trip.stopTimer
         (new = 0 ∨ ¬ early → u.trip.state = s.trip.state ∧ stays)
         ∧ (new ≠ 0 → early → u.trip.stopClass &&& new = 0 → u.trip.state = .tripped ∧ stays)
         ∧ (early → u.trip.stopClass &&& new ≠ 0 → s.trip.stopAck = true → u.trip.state = .stopped ∧ stays)
         ∧ (early → u.trip.stopClass &&& new ≠ 0 → s.trip.stopAck = false →
             u.trip.state = .stopping ∧ u.trip.stopTimer = some (s.timebase.count + timeout.setWidth 32))
         ∧ (new = 0 → u.link = s.link)
         ∧ (new ≠ 0 → ∀ r : Requester, u.link.notices[r] = s.link.notices[r].take .trip)
         ∧ (new = 0 ∨ s.trip.latched ≠ 0 → u.trip.capture = s.trip.capture)
         ∧ (new ≠ 0 → s.trip.latched = 0 → ∃ src : Source, u.trip.capture = some (s.timebase.count, src)
             ∧ new.getLsbD src.val = true ∧ ∀ other : Source, other < src → new.getLsbD other.val = false))
      ∧ (u.trip.active = s.trip.active → u.outputs = s.outputs)
      ∧ (u.trip.active ≠ s.trip.active → ∀ ix : OutputIx, u.outputs[ix] = judgeOutput u.trip.active u.trip.latched s.outputs[ix])
      ∧ u = { s with trip := u.trip, outputs := u.outputs, link := { s.link with notices := u.link.notices } })

/-! ### What every step keeps -/

/-- Every step keeps the table sound: records within Table 1-1, no two with one key, no agent above its quota (R5 to R15, R19). -/
def Obligations.StepKeepsTable : Prop :=
  ∀ s t : State, TableOk s.table → step s = .next t → TableOk t.table

/-- Every step keeps every resolved entry equal to what the records give in the current posture, and every target level equal to what the
pressures, routes and fan cap give (R89, R92, R129, R130). -/
def Obligations.StepKeepsEntriesAndTargets : Prop :=
  ∀ s t : State, ResolvedOk s → TargetsOk s → step s = .next t → ResolvedOk t ∧ TargetsOk t

/-- Every step keeps the Posture Monitor sound: STEADY exactly when raw equals current, and every settle as R73 to R76 give it. -/
def Obligations.StepKeepsPosture : Prop :=
  ∀ s t : State, PostureOk s.posture → step s = .next t → PostureOk t.posture

/-- Every step keeps the sequencer, the filters and the Governor's subjects within their tables (R109, R121, R126, Table 6-2). -/
def Obligations.StepKeepsMeasurement : Prop :=
  ∀ s t : State, MeasureOk s → step s = .next t → MeasureOk t

/-- Every step keeps the Trip Unit and the outputs sound: active sources are latched, ARMED is the empty latched set, the stop timer runs exactly in
STOPPING, the active set is the one judged, and an output is FORCED exactly while its condition holds (R141, R150 to R155). -/
def Obligations.StepKeepsTripAndOutputs : Prop :=
  ∀ s t : State, TripOk s.trip → ActiveOk s → OutputsOk s → step s = .next t → TripOk t.trip ∧ ActiveOk t ∧ OutputsOk t

/-- Every step keeps every reported set within its pending set (R173), and every execution within 40 us: at that age its completion is waiting
(R169). -/
def Obligations.StepKeepsLinkPort : Prop :=
  ∀ s t : State, step s = .next t →
    (NoticesOk s.link → NoticesOk t.link) ∧ (CompletionInTime s → CompletionInTime t)

/-- No step passes over a timer, a period end or a step of the sequencer that is due (R53, R55, R61, R103, R106, R138). -/
def Obligations.StepMissesNothing : Prop :=
  ∀ s t : State, TripOk s.trip → OutputsOk s → NothingMissed s → step s = .next t → NothingMissed t

/-- The state after reset meets every one of those (its sampled levels are the model's choice, log 8). -/
def Obligations.ResetIsSound : Prop :=
  TableOk State.reset.table ∧ ResolvedOk State.reset ∧ TargetsOk State.reset ∧ PostureOk State.reset.posture ∧ MeasureOk State.reset
  ∧ TripOk State.reset.trip ∧ ActiveOk State.reset ∧ OutputsOk State.reset ∧ NoticesOk State.reset.link
  ∧ CompletionInTime State.reset ∧ NothingMissed State.reset
end

