-- ==== Sys2Proof/Laws/State.lean ====
section
/-! SUPPORT. One lemma per field per write of a field of State, all by rfl, so that no proof unfolds a record update; the writes within
    a block
reduce to the write of the block. -/

namespace Sys2Proof.Machine

variable (s : State)

/-! ### withTimebase -/

@[simp] theorem State.withTimebase_timebase (x : Moment) : (s.withTimebase x).timebase = x := rfl
@[simp] theorem State.withTimebase_table (x : Moment) : (s.withTimebase x).table = s.table := rfl
@[simp] theorem State.withTimebase_commitTimers (x : Moment) : (s.withTimebase x).commitTimers = s.commitTimers := rfl
@[simp] theorem State.withTimebase_leaseClock (x : Moment) : (s.withTimebase x).leaseClock = s.leaseClock := rfl
@[simp] theorem State.withTimebase_posture (x : Moment) : (s.withTimebase x).posture = s.posture := rfl
@[simp] theorem State.withTimebase_resolver (x : Moment) : (s.withTimebase x).resolver = s.resolver := rfl
@[simp] theorem State.withTimebase_measure (x : Moment) : (s.withTimebase x).measure = s.measure := rfl
@[simp] theorem State.withTimebase_governor (x : Moment) : (s.withTimebase x).governor = s.governor := rfl
@[simp] theorem State.withTimebase_outputs (x : Moment) : (s.withTimebase x).outputs = s.outputs := rfl
@[simp] theorem State.withTimebase_trip (x : Moment) : (s.withTimebase x).trip = s.trip := rfl
@[simp] theorem State.withTimebase_link (x : Moment) : (s.withTimebase x).link = s.link := rfl
@[simp] theorem State.withTimebase_profile (x : Moment) : (s.withTimebase x).profile = s.profile := rfl
@[simp] theorem State.withTimebase_fresh (x : Moment) : (s.withTimebase x).fresh = s.fresh := rfl
@[simp] theorem State.withTimebase_pending (x : Moment) : (s.withTimebase x).pending = s.pending := rfl

/-! ### withTable -/

@[simp] theorem State.withTable_timebase (x : Table) : (s.withTable x).timebase = s.timebase := rfl
@[simp] theorem State.withTable_table (x : Table) : (s.withTable x).table = x := rfl
@[simp] theorem State.withTable_commitTimers (x : Table) : (s.withTable x).commitTimers = s.commitTimers := rfl
@[simp] theorem State.withTable_leaseClock (x : Table) : (s.withTable x).leaseClock = s.leaseClock := rfl
@[simp] theorem State.withTable_posture (x : Table) : (s.withTable x).posture = s.posture := rfl
@[simp] theorem State.withTable_resolver (x : Table) : (s.withTable x).resolver = s.resolver := rfl
@[simp] theorem State.withTable_measure (x : Table) : (s.withTable x).measure = s.measure := rfl
@[simp] theorem State.withTable_governor (x : Table) : (s.withTable x).governor = s.governor := rfl
@[simp] theorem State.withTable_outputs (x : Table) : (s.withTable x).outputs = s.outputs := rfl
@[simp] theorem State.withTable_trip (x : Table) : (s.withTable x).trip = s.trip := rfl
@[simp] theorem State.withTable_link (x : Table) : (s.withTable x).link = s.link := rfl
@[simp] theorem State.withTable_profile (x : Table) : (s.withTable x).profile = s.profile := rfl
@[simp] theorem State.withTable_fresh (x : Table) : (s.withTable x).fresh = s.fresh := rfl
@[simp] theorem State.withTable_pending (x : Table) : (s.withTable x).pending = s.pending := rfl

/-! ### withCommitTimers -/

@[simp] theorem State.withCommitTimers_timebase (x : Vector CommitTimer 10) : (s.withCommitTimers x).timebase = s.timebase := rfl
@[simp] theorem State.withCommitTimers_table (x : Vector CommitTimer 10) : (s.withCommitTimers x).table = s.table := rfl
@[simp] theorem State.withCommitTimers_commitTimers (x : Vector CommitTimer 10) : (s.withCommitTimers x).commitTimers = x := rfl
@[simp] theorem State.withCommitTimers_leaseClock (x : Vector CommitTimer 10) : (s.withCommitTimers x).leaseClock = s.leaseClock := rfl
@[simp] theorem State.withCommitTimers_posture (x : Vector CommitTimer 10) : (s.withCommitTimers x).posture = s.posture := rfl
@[simp] theorem State.withCommitTimers_resolver (x : Vector CommitTimer 10) : (s.withCommitTimers x).resolver = s.resolver := rfl
@[simp] theorem State.withCommitTimers_measure (x : Vector CommitTimer 10) : (s.withCommitTimers x).measure = s.measure := rfl
@[simp] theorem State.withCommitTimers_governor (x : Vector CommitTimer 10) : (s.withCommitTimers x).governor = s.governor := rfl
@[simp] theorem State.withCommitTimers_outputs (x : Vector CommitTimer 10) : (s.withCommitTimers x).outputs = s.outputs := rfl
@[simp] theorem State.withCommitTimers_trip (x : Vector CommitTimer 10) : (s.withCommitTimers x).trip = s.trip := rfl
@[simp] theorem State.withCommitTimers_link (x : Vector CommitTimer 10) : (s.withCommitTimers x).link = s.link := rfl
@[simp] theorem State.withCommitTimers_profile (x : Vector CommitTimer 10) : (s.withCommitTimers x).profile = s.profile := rfl
@[simp] theorem State.withCommitTimers_fresh (x : Vector CommitTimer 10) : (s.withCommitTimers x).fresh = s.fresh := rfl
@[simp] theorem State.withCommitTimers_pending (x : Vector CommitTimer 10) : (s.withCommitTimers x).pending = s.pending := rfl

/-! ### withLeaseClock -/

@[simp] theorem State.withLeaseClock_timebase (x : Count) : (s.withLeaseClock x).timebase = s.timebase := rfl
@[simp] theorem State.withLeaseClock_table (x : Count) : (s.withLeaseClock x).table = s.table := rfl
@[simp] theorem State.withLeaseClock_commitTimers (x : Count) : (s.withLeaseClock x).commitTimers = s.commitTimers := rfl
@[simp] theorem State.withLeaseClock_leaseClock (x : Count) : (s.withLeaseClock x).leaseClock = x := rfl
@[simp] theorem State.withLeaseClock_posture (x : Count) : (s.withLeaseClock x).posture = s.posture := rfl
@[simp] theorem State.withLeaseClock_resolver (x : Count) : (s.withLeaseClock x).resolver = s.resolver := rfl
@[simp] theorem State.withLeaseClock_measure (x : Count) : (s.withLeaseClock x).measure = s.measure := rfl
@[simp] theorem State.withLeaseClock_governor (x : Count) : (s.withLeaseClock x).governor = s.governor := rfl
@[simp] theorem State.withLeaseClock_outputs (x : Count) : (s.withLeaseClock x).outputs = s.outputs := rfl
@[simp] theorem State.withLeaseClock_trip (x : Count) : (s.withLeaseClock x).trip = s.trip := rfl
@[simp] theorem State.withLeaseClock_link (x : Count) : (s.withLeaseClock x).link = s.link := rfl
@[simp] theorem State.withLeaseClock_profile (x : Count) : (s.withLeaseClock x).profile = s.profile := rfl
@[simp] theorem State.withLeaseClock_fresh (x : Count) : (s.withLeaseClock x).fresh = s.fresh := rfl
@[simp] theorem State.withLeaseClock_pending (x : Count) : (s.withLeaseClock x).pending = s.pending := rfl

/-! ### withPosture -/

@[simp] theorem State.withPosture_timebase (x : PostureMonitor) : (s.withPosture x).timebase = s.timebase := rfl
@[simp] theorem State.withPosture_table (x : PostureMonitor) : (s.withPosture x).table = s.table := rfl
@[simp] theorem State.withPosture_commitTimers (x : PostureMonitor) : (s.withPosture x).commitTimers = s.commitTimers := rfl
@[simp] theorem State.withPosture_leaseClock (x : PostureMonitor) : (s.withPosture x).leaseClock = s.leaseClock := rfl
@[simp] theorem State.withPosture_posture (x : PostureMonitor) : (s.withPosture x).posture = x := rfl
@[simp] theorem State.withPosture_resolver (x : PostureMonitor) : (s.withPosture x).resolver = s.resolver := rfl
@[simp] theorem State.withPosture_measure (x : PostureMonitor) : (s.withPosture x).measure = s.measure := rfl
@[simp] theorem State.withPosture_governor (x : PostureMonitor) : (s.withPosture x).governor = s.governor := rfl
@[simp] theorem State.withPosture_outputs (x : PostureMonitor) : (s.withPosture x).outputs = s.outputs := rfl
@[simp] theorem State.withPosture_trip (x : PostureMonitor) : (s.withPosture x).trip = s.trip := rfl
@[simp] theorem State.withPosture_link (x : PostureMonitor) : (s.withPosture x).link = s.link := rfl
@[simp] theorem State.withPosture_profile (x : PostureMonitor) : (s.withPosture x).profile = s.profile := rfl
@[simp] theorem State.withPosture_fresh (x : PostureMonitor) : (s.withPosture x).fresh = s.fresh := rfl
@[simp] theorem State.withPosture_pending (x : PostureMonitor) : (s.withPosture x).pending = s.pending := rfl

/-! ### withResolver -/

@[simp] theorem State.withResolver_timebase (x : Vector Entry 10) : (s.withResolver x).timebase = s.timebase := rfl
@[simp] theorem State.withResolver_table (x : Vector Entry 10) : (s.withResolver x).table = s.table := rfl
@[simp] theorem State.withResolver_commitTimers (x : Vector Entry 10) : (s.withResolver x).commitTimers = s.commitTimers := rfl
@[simp] theorem State.withResolver_leaseClock (x : Vector Entry 10) : (s.withResolver x).leaseClock = s.leaseClock := rfl
@[simp] theorem State.withResolver_posture (x : Vector Entry 10) : (s.withResolver x).posture = s.posture := rfl
@[simp] theorem State.withResolver_resolver (x : Vector Entry 10) : (s.withResolver x).resolver = x := rfl
@[simp] theorem State.withResolver_measure (x : Vector Entry 10) : (s.withResolver x).measure = s.measure := rfl
@[simp] theorem State.withResolver_governor (x : Vector Entry 10) : (s.withResolver x).governor = s.governor := rfl
@[simp] theorem State.withResolver_outputs (x : Vector Entry 10) : (s.withResolver x).outputs = s.outputs := rfl
@[simp] theorem State.withResolver_trip (x : Vector Entry 10) : (s.withResolver x).trip = s.trip := rfl
@[simp] theorem State.withResolver_link (x : Vector Entry 10) : (s.withResolver x).link = s.link := rfl
@[simp] theorem State.withResolver_profile (x : Vector Entry 10) : (s.withResolver x).profile = s.profile := rfl
@[simp] theorem State.withResolver_fresh (x : Vector Entry 10) : (s.withResolver x).fresh = s.fresh := rfl
@[simp] theorem State.withResolver_pending (x : Vector Entry 10) : (s.withResolver x).pending = s.pending := rfl

/-! ### withMeasure -/

@[simp] theorem State.withMeasure_timebase (x : Measurement) : (s.withMeasure x).timebase = s.timebase := rfl
@[simp] theorem State.withMeasure_table (x : Measurement) : (s.withMeasure x).table = s.table := rfl
@[simp] theorem State.withMeasure_commitTimers (x : Measurement) : (s.withMeasure x).commitTimers = s.commitTimers := rfl
@[simp] theorem State.withMeasure_leaseClock (x : Measurement) : (s.withMeasure x).leaseClock = s.leaseClock := rfl
@[simp] theorem State.withMeasure_posture (x : Measurement) : (s.withMeasure x).posture = s.posture := rfl
@[simp] theorem State.withMeasure_resolver (x : Measurement) : (s.withMeasure x).resolver = s.resolver := rfl
@[simp] theorem State.withMeasure_measure (x : Measurement) : (s.withMeasure x).measure = x := rfl
@[simp] theorem State.withMeasure_governor (x : Measurement) : (s.withMeasure x).governor = s.governor := rfl
@[simp] theorem State.withMeasure_outputs (x : Measurement) : (s.withMeasure x).outputs = s.outputs := rfl
@[simp] theorem State.withMeasure_trip (x : Measurement) : (s.withMeasure x).trip = s.trip := rfl
@[simp] theorem State.withMeasure_link (x : Measurement) : (s.withMeasure x).link = s.link := rfl
@[simp] theorem State.withMeasure_profile (x : Measurement) : (s.withMeasure x).profile = s.profile := rfl
@[simp] theorem State.withMeasure_fresh (x : Measurement) : (s.withMeasure x).fresh = s.fresh := rfl
@[simp] theorem State.withMeasure_pending (x : Measurement) : (s.withMeasure x).pending = s.pending := rfl

/-! ### withGovernor -/

@[simp] theorem State.withGovernor_timebase (x : Governor) : (s.withGovernor x).timebase = s.timebase := rfl
@[simp] theorem State.withGovernor_table (x : Governor) : (s.withGovernor x).table = s.table := rfl
@[simp] theorem State.withGovernor_commitTimers (x : Governor) : (s.withGovernor x).commitTimers = s.commitTimers := rfl
@[simp] theorem State.withGovernor_leaseClock (x : Governor) : (s.withGovernor x).leaseClock = s.leaseClock := rfl
@[simp] theorem State.withGovernor_posture (x : Governor) : (s.withGovernor x).posture = s.posture := rfl
@[simp] theorem State.withGovernor_resolver (x : Governor) : (s.withGovernor x).resolver = s.resolver := rfl
@[simp] theorem State.withGovernor_measure (x : Governor) : (s.withGovernor x).measure = s.measure := rfl
@[simp] theorem State.withGovernor_governor (x : Governor) : (s.withGovernor x).governor = x := rfl
@[simp] theorem State.withGovernor_outputs (x : Governor) : (s.withGovernor x).outputs = s.outputs := rfl
@[simp] theorem State.withGovernor_trip (x : Governor) : (s.withGovernor x).trip = s.trip := rfl
@[simp] theorem State.withGovernor_link (x : Governor) : (s.withGovernor x).link = s.link := rfl
@[simp] theorem State.withGovernor_profile (x : Governor) : (s.withGovernor x).profile = s.profile := rfl
@[simp] theorem State.withGovernor_fresh (x : Governor) : (s.withGovernor x).fresh = s.fresh := rfl
@[simp] theorem State.withGovernor_pending (x : Governor) : (s.withGovernor x).pending = s.pending := rfl

/-! ### withOutputs -/

@[simp] theorem State.withOutputs_timebase (x : Vector Output 4) : (s.withOutputs x).timebase = s.timebase := rfl
@[simp] theorem State.withOutputs_table (x : Vector Output 4) : (s.withOutputs x).table = s.table := rfl
@[simp] theorem State.withOutputs_commitTimers (x : Vector Output 4) : (s.withOutputs x).commitTimers = s.commitTimers := rfl
@[simp] theorem State.withOutputs_leaseClock (x : Vector Output 4) : (s.withOutputs x).leaseClock = s.leaseClock := rfl
@[simp] theorem State.withOutputs_posture (x : Vector Output 4) : (s.withOutputs x).posture = s.posture := rfl
@[simp] theorem State.withOutputs_resolver (x : Vector Output 4) : (s.withOutputs x).resolver = s.resolver := rfl
@[simp] theorem State.withOutputs_measure (x : Vector Output 4) : (s.withOutputs x).measure = s.measure := rfl
@[simp] theorem State.withOutputs_governor (x : Vector Output 4) : (s.withOutputs x).governor = s.governor := rfl
@[simp] theorem State.withOutputs_outputs (x : Vector Output 4) : (s.withOutputs x).outputs = x := rfl
@[simp] theorem State.withOutputs_trip (x : Vector Output 4) : (s.withOutputs x).trip = s.trip := rfl
@[simp] theorem State.withOutputs_link (x : Vector Output 4) : (s.withOutputs x).link = s.link := rfl
@[simp] theorem State.withOutputs_profile (x : Vector Output 4) : (s.withOutputs x).profile = s.profile := rfl
@[simp] theorem State.withOutputs_fresh (x : Vector Output 4) : (s.withOutputs x).fresh = s.fresh := rfl
@[simp] theorem State.withOutputs_pending (x : Vector Output 4) : (s.withOutputs x).pending = s.pending := rfl

/-! ### withTrip -/

@[simp] theorem State.withTrip_timebase (x : TripUnit) : (s.withTrip x).timebase = s.timebase := rfl
@[simp] theorem State.withTrip_table (x : TripUnit) : (s.withTrip x).table = s.table := rfl
@[simp] theorem State.withTrip_commitTimers (x : TripUnit) : (s.withTrip x).commitTimers = s.commitTimers := rfl
@[simp] theorem State.withTrip_leaseClock (x : TripUnit) : (s.withTrip x).leaseClock = s.leaseClock := rfl
@[simp] theorem State.withTrip_posture (x : TripUnit) : (s.withTrip x).posture = s.posture := rfl
@[simp] theorem State.withTrip_resolver (x : TripUnit) : (s.withTrip x).resolver = s.resolver := rfl
@[simp] theorem State.withTrip_measure (x : TripUnit) : (s.withTrip x).measure = s.measure := rfl
@[simp] theorem State.withTrip_governor (x : TripUnit) : (s.withTrip x).governor = s.governor := rfl
@[simp] theorem State.withTrip_outputs (x : TripUnit) : (s.withTrip x).outputs = s.outputs := rfl
@[simp] theorem State.withTrip_trip (x : TripUnit) : (s.withTrip x).trip = x := rfl
@[simp] theorem State.withTrip_link (x : TripUnit) : (s.withTrip x).link = s.link := rfl
@[simp] theorem State.withTrip_profile (x : TripUnit) : (s.withTrip x).profile = s.profile := rfl
@[simp] theorem State.withTrip_fresh (x : TripUnit) : (s.withTrip x).fresh = s.fresh := rfl
@[simp] theorem State.withTrip_pending (x : TripUnit) : (s.withTrip x).pending = s.pending := rfl

/-! ### withLink -/

@[simp] theorem State.withLink_timebase (x : LinkPort) : (s.withLink x).timebase = s.timebase := rfl
@[simp] theorem State.withLink_table (x : LinkPort) : (s.withLink x).table = s.table := rfl
@[simp] theorem State.withLink_commitTimers (x : LinkPort) : (s.withLink x).commitTimers = s.commitTimers := rfl
@[simp] theorem State.withLink_leaseClock (x : LinkPort) : (s.withLink x).leaseClock = s.leaseClock := rfl
@[simp] theorem State.withLink_posture (x : LinkPort) : (s.withLink x).posture = s.posture := rfl
@[simp] theorem State.withLink_resolver (x : LinkPort) : (s.withLink x).resolver = s.resolver := rfl
@[simp] theorem State.withLink_measure (x : LinkPort) : (s.withLink x).measure = s.measure := rfl
@[simp] theorem State.withLink_governor (x : LinkPort) : (s.withLink x).governor = s.governor := rfl
@[simp] theorem State.withLink_outputs (x : LinkPort) : (s.withLink x).outputs = s.outputs := rfl
@[simp] theorem State.withLink_trip (x : LinkPort) : (s.withLink x).trip = s.trip := rfl
@[simp] theorem State.withLink_link (x : LinkPort) : (s.withLink x).link = x := rfl
@[simp] theorem State.withLink_profile (x : LinkPort) : (s.withLink x).profile = s.profile := rfl
@[simp] theorem State.withLink_fresh (x : LinkPort) : (s.withLink x).fresh = s.fresh := rfl
@[simp] theorem State.withLink_pending (x : LinkPort) : (s.withLink x).pending = s.pending := rfl

/-! ### withProfile -/

@[simp] theorem State.withProfile_timebase (x : Fin 4) : (s.withProfile x).timebase = s.timebase := rfl
@[simp] theorem State.withProfile_table (x : Fin 4) : (s.withProfile x).table = s.table := rfl
@[simp] theorem State.withProfile_commitTimers (x : Fin 4) : (s.withProfile x).commitTimers = s.commitTimers := rfl
@[simp] theorem State.withProfile_leaseClock (x : Fin 4) : (s.withProfile x).leaseClock = s.leaseClock := rfl
@[simp] theorem State.withProfile_posture (x : Fin 4) : (s.withProfile x).posture = s.posture := rfl
@[simp] theorem State.withProfile_resolver (x : Fin 4) : (s.withProfile x).resolver = s.resolver := rfl
@[simp] theorem State.withProfile_measure (x : Fin 4) : (s.withProfile x).measure = s.measure := rfl
@[simp] theorem State.withProfile_governor (x : Fin 4) : (s.withProfile x).governor = s.governor := rfl
@[simp] theorem State.withProfile_outputs (x : Fin 4) : (s.withProfile x).outputs = s.outputs := rfl
@[simp] theorem State.withProfile_trip (x : Fin 4) : (s.withProfile x).trip = s.trip := rfl
@[simp] theorem State.withProfile_link (x : Fin 4) : (s.withProfile x).link = s.link := rfl
@[simp] theorem State.withProfile_profile (x : Fin 4) : (s.withProfile x).profile = x := rfl
@[simp] theorem State.withProfile_fresh (x : Fin 4) : (s.withProfile x).fresh = s.fresh := rfl
@[simp] theorem State.withProfile_pending (x : Fin 4) : (s.withProfile x).pending = s.pending := rfl

/-! ### withFresh -/

@[simp] theorem State.withFresh_timebase (x : Nat) : (s.withFresh x).timebase = s.timebase := rfl
@[simp] theorem State.withFresh_table (x : Nat) : (s.withFresh x).table = s.table := rfl
@[simp] theorem State.withFresh_commitTimers (x : Nat) : (s.withFresh x).commitTimers = s.commitTimers := rfl
@[simp] theorem State.withFresh_leaseClock (x : Nat) : (s.withFresh x).leaseClock = s.leaseClock := rfl
@[simp] theorem State.withFresh_posture (x : Nat) : (s.withFresh x).posture = s.posture := rfl
@[simp] theorem State.withFresh_resolver (x : Nat) : (s.withFresh x).resolver = s.resolver := rfl
@[simp] theorem State.withFresh_measure (x : Nat) : (s.withFresh x).measure = s.measure := rfl
@[simp] theorem State.withFresh_governor (x : Nat) : (s.withFresh x).governor = s.governor := rfl
@[simp] theorem State.withFresh_outputs (x : Nat) : (s.withFresh x).outputs = s.outputs := rfl
@[simp] theorem State.withFresh_trip (x : Nat) : (s.withFresh x).trip = s.trip := rfl
@[simp] theorem State.withFresh_link (x : Nat) : (s.withFresh x).link = s.link := rfl
@[simp] theorem State.withFresh_profile (x : Nat) : (s.withFresh x).profile = s.profile := rfl
@[simp] theorem State.withFresh_fresh (x : Nat) : (s.withFresh x).fresh = x := rfl
@[simp] theorem State.withFresh_pending (x : Nat) : (s.withFresh x).pending = s.pending := rfl

/-! ### withPending -/

@[simp] theorem State.withPending_timebase (x : List Instr) : (s.withPending x).timebase = s.timebase := rfl
@[simp] theorem State.withPending_table (x : List Instr) : (s.withPending x).table = s.table := rfl
@[simp] theorem State.withPending_commitTimers (x : List Instr) : (s.withPending x).commitTimers = s.commitTimers := rfl
@[simp] theorem State.withPending_leaseClock (x : List Instr) : (s.withPending x).leaseClock = s.leaseClock := rfl
@[simp] theorem State.withPending_posture (x : List Instr) : (s.withPending x).posture = s.posture := rfl
@[simp] theorem State.withPending_resolver (x : List Instr) : (s.withPending x).resolver = s.resolver := rfl
@[simp] theorem State.withPending_measure (x : List Instr) : (s.withPending x).measure = s.measure := rfl
@[simp] theorem State.withPending_governor (x : List Instr) : (s.withPending x).governor = s.governor := rfl
@[simp] theorem State.withPending_outputs (x : List Instr) : (s.withPending x).outputs = s.outputs := rfl
@[simp] theorem State.withPending_trip (x : List Instr) : (s.withPending x).trip = s.trip := rfl
@[simp] theorem State.withPending_link (x : List Instr) : (s.withPending x).link = s.link := rfl
@[simp] theorem State.withPending_profile (x : List Instr) : (s.withPending x).profile = s.profile := rfl
@[simp] theorem State.withPending_fresh (x : List Instr) : (s.withPending x).fresh = s.fresh := rfl
@[simp] theorem State.withPending_pending (x : List Instr) : (s.withPending x).pending = x := rfl

/-! ### Writes within a block -/

@[simp] theorem State.withNotices_eq (x : Vector NoticeState 8) : s.withNotices x = s.withLink { s.link with notices := x } := rfl
@[simp] theorem State.withSequencer_eq (x : Sequencer) : s.withSequencer x = s.withMeasure { s.measure with sequencer := x } := rfl
@[simp] theorem State.withSettle_eq (x : Option Settle) : s.withSettle x = s.withPosture { s.posture with settle := x } := rfl

/-! ### A field written with the value it holds -/

@[simp] theorem State.withTimebase_self : s.withTimebase s.timebase = s := rfl
@[simp] theorem State.withTable_self : s.withTable s.table = s := rfl
@[simp] theorem State.withCommitTimers_self : s.withCommitTimers s.commitTimers = s := rfl
@[simp] theorem State.withLeaseClock_self : s.withLeaseClock s.leaseClock = s := rfl
@[simp] theorem State.withPosture_self : s.withPosture s.posture = s := rfl
@[simp] theorem State.withResolver_self : s.withResolver s.resolver = s := rfl
@[simp] theorem State.withMeasure_self : s.withMeasure s.measure = s := rfl
@[simp] theorem State.withGovernor_self : s.withGovernor s.governor = s := rfl
@[simp] theorem State.withOutputs_self : s.withOutputs s.outputs = s := rfl
@[simp] theorem State.withTrip_self : s.withTrip s.trip = s := rfl
@[simp] theorem State.withLink_self : s.withLink s.link = s := rfl
@[simp] theorem State.withProfile_self : s.withProfile s.profile = s := rfl
@[simp] theorem State.withFresh_self : s.withFresh s.fresh = s := rfl
@[simp] theorem State.withPending_self : s.withPending s.pending = s := rfl

/-- Two states that agree in every field are one state. -/
theorem State.eq_of_fields {s t : State} (h0 : s.timebase = t.timebase) (h1 : s.table = t.table) (h2 : s.commitTimers = t.commitTimers)
    (h3 : s.leaseClock = t.leaseClock) (h4 : s.posture = t.posture) (h5 : s.resolver = t.resolver) (h6 : s.measure = t.measure)
    (h7 : s.governor = t.governor) (h8 : s.outputs = t.outputs) (h9 : s.trip = t.trip) (h10 : s.link = t.link)
    (h11 : s.profile = t.profile) (h12 : s.fresh = t.fresh) (h13 : s.pending = t.pending) : s = t := by
  cases s; cases t
  cases h0; cases h1; cases h2; cases h3; cases h4; cases h5; cases h6; cases h7; cases h8; cases h9; cases h10; cases h11; cases h12
  cases h13
  rfl

end Sys2Proof.Machine
end

