-- ==== Sys2Proof/Laws/Ops.lean ====
section
/-! SUPPORT. What each shared operation of Machine/Ops.lean leaves alone, field by field, and what it writes. -/

namespace Sys2Proof.Machine

variable (s : State)

/-! ### Notices -/

@[simp] theorem post_timebase (r : Requester) (n : Notice) : (post s r n).timebase = s.timebase := rfl
@[simp] theorem post_table (r : Requester) (n : Notice) : (post s r n).table = s.table := rfl
@[simp] theorem post_commitTimers (r : Requester) (n : Notice) : (post s r n).commitTimers = s.commitTimers := rfl
@[simp] theorem post_leaseClock (r : Requester) (n : Notice) : (post s r n).leaseClock = s.leaseClock := rfl
@[simp] theorem post_posture (r : Requester) (n : Notice) : (post s r n).posture = s.posture := rfl
@[simp] theorem post_resolver (r : Requester) (n : Notice) : (post s r n).resolver = s.resolver := rfl
@[simp] theorem post_measure (r : Requester) (n : Notice) : (post s r n).measure = s.measure := rfl
@[simp] theorem post_governor (r : Requester) (n : Notice) : (post s r n).governor = s.governor := rfl
@[simp] theorem post_outputs (r : Requester) (n : Notice) : (post s r n).outputs = s.outputs := rfl
@[simp] theorem post_trip (r : Requester) (n : Notice) : (post s r n).trip = s.trip := rfl
@[simp] theorem post_profile (r : Requester) (n : Notice) : (post s r n).profile = s.profile := rfl
@[simp] theorem post_fresh (r : Requester) (n : Notice) : (post s r n).fresh = s.fresh := rfl
@[simp] theorem post_pending (r : Requester) (n : Notice) : (post s r n).pending = s.pending := rfl
@[simp] theorem post_link_execution (r : Requester) (n : Notice) : (post s r n).link.execution = s.link.execution := rfl
@[simp] theorem post_link_slot (r : Requester) (n : Notice) : (post s r n).link.slot = s.link.slot := rfl
@[simp] theorem post_link_sdo (r : Requester) (n : Notice) : (post s r n).link.sdo = s.link.sdo := rfl
@[simp] theorem post_link_voidFrame (r : Requester) (n : Notice) : (post s r n).link.voidFrame = s.link.voidFrame := rfl

/-- A notice reaches the notice state of its requester alone (R172). -/
@[simp] theorem post_notices (r : Requester) (n : Notice) :
    (post s r n).link.notices = s.link.notices.set r (s.link.notices[r].take n) := rfl

/-- Notices handed over one after another touch the Link Port's notice states alone. -/
theorem postList_eq (l : List (Requester × Notice)) :
    postList s l = s.withLink { s.link with notices := (postList s l).link.notices } := by
  induction l generalizing s with
  | nil => rfl
  | cons a l ih => exact (ih (post s a.1 a.2)).trans rfl

@[simp] theorem postList_timebase (l : List (Requester × Notice)) : (postList s l).timebase = s.timebase := by
  rw [postList_eq]; rfl
@[simp] theorem postList_table (l : List (Requester × Notice)) : (postList s l).table = s.table := by rw [postList_eq]; rfl
@[simp] theorem postList_commitTimers (l : List (Requester × Notice)) : (postList s l).commitTimers = s.commitTimers := by
  rw [postList_eq]; rfl
@[simp] theorem postList_leaseClock (l : List (Requester × Notice)) : (postList s l).leaseClock = s.leaseClock := by
  rw [postList_eq]; rfl
@[simp] theorem postList_posture (l : List (Requester × Notice)) : (postList s l).posture = s.posture := by rw [postList_eq]; rfl
@[simp] theorem postList_resolver (l : List (Requester × Notice)) : (postList s l).resolver = s.resolver := by
  rw [postList_eq]; rfl
@[simp] theorem postList_measure (l : List (Requester × Notice)) : (postList s l).measure = s.measure := by rw [postList_eq]; rfl
@[simp] theorem postList_governor (l : List (Requester × Notice)) : (postList s l).governor = s.governor := by
  rw [postList_eq]; rfl
@[simp] theorem postList_outputs (l : List (Requester × Notice)) : (postList s l).outputs = s.outputs := by rw [postList_eq]; rfl
@[simp] theorem postList_trip (l : List (Requester × Notice)) : (postList s l).trip = s.trip := by rw [postList_eq]; rfl
@[simp] theorem postList_profile (l : List (Requester × Notice)) : (postList s l).profile = s.profile := by rw [postList_eq]; rfl
@[simp] theorem postList_fresh (l : List (Requester × Notice)) : (postList s l).fresh = s.fresh := by rw [postList_eq]; rfl
@[simp] theorem postList_pending (l : List (Requester × Notice)) : (postList s l).pending = s.pending := by rw [postList_eq]; rfl
@[simp] theorem postList_link_execution (l : List (Requester × Notice)) : (postList s l).link.execution = s.link.execution := by
  rw [postList_eq]; rfl
@[simp] theorem postList_link_slot (l : List (Requester × Notice)) : (postList s l).link.slot = s.link.slot := by
  rw [postList_eq]; rfl
@[simp] theorem postList_link_sdo (l : List (Requester × Notice)) : (postList s l).link.sdo = s.link.sdo := by
  rw [postList_eq]; rfl
@[simp] theorem postList_link_voidFrame (l : List (Requester × Notice)) : (postList s l).link.voidFrame = s.link.voidFrame := by
  rw [postList_eq]; rfl

@[simp] theorem postAll_timebase (n : Notice) : (postAll s n).timebase = s.timebase := rfl
@[simp] theorem postAll_table (n : Notice) : (postAll s n).table = s.table := rfl
@[simp] theorem postAll_commitTimers (n : Notice) : (postAll s n).commitTimers = s.commitTimers := rfl
@[simp] theorem postAll_leaseClock (n : Notice) : (postAll s n).leaseClock = s.leaseClock := rfl
@[simp] theorem postAll_posture (n : Notice) : (postAll s n).posture = s.posture := rfl
@[simp] theorem postAll_resolver (n : Notice) : (postAll s n).resolver = s.resolver := rfl
@[simp] theorem postAll_measure (n : Notice) : (postAll s n).measure = s.measure := rfl
@[simp] theorem postAll_governor (n : Notice) : (postAll s n).governor = s.governor := rfl
@[simp] theorem postAll_outputs (n : Notice) : (postAll s n).outputs = s.outputs := rfl
@[simp] theorem postAll_trip (n : Notice) : (postAll s n).trip = s.trip := rfl
@[simp] theorem postAll_profile (n : Notice) : (postAll s n).profile = s.profile := rfl
@[simp] theorem postAll_fresh (n : Notice) : (postAll s n).fresh = s.fresh := rfl
@[simp] theorem postAll_pending (n : Notice) : (postAll s n).pending = s.pending := rfl
@[simp] theorem postAll_link_execution (n : Notice) : (postAll s n).link.execution = s.link.execution := rfl
@[simp] theorem postAll_link_slot (n : Notice) : (postAll s n).link.slot = s.link.slot := rfl
@[simp] theorem postAll_link_sdo (n : Notice) : (postAll s n).link.sdo = s.link.sdo := rfl
@[simp] theorem postAll_link_voidFrame (n : Notice) : (postAll s n).link.voidFrame = s.link.voidFrame := rfl

/-- A notice to all reaches every requester (R172). -/
theorem postAll_notices (n : Notice) (r : Requester) : (postAll s n).link.notices[r] = s.link.notices[r].take n := by
  simp [postAll]

/-! ### Recomputes -/

@[simp] theorem recomputeTarget_timebase (a : OutputIx) : (recomputeTarget s a).timebase = s.timebase := rfl
@[simp] theorem recomputeTarget_table (a : OutputIx) : (recomputeTarget s a).table = s.table := rfl
@[simp] theorem recomputeTarget_commitTimers (a : OutputIx) : (recomputeTarget s a).commitTimers = s.commitTimers := rfl
@[simp] theorem recomputeTarget_leaseClock (a : OutputIx) : (recomputeTarget s a).leaseClock = s.leaseClock := rfl
@[simp] theorem recomputeTarget_posture (a : OutputIx) : (recomputeTarget s a).posture = s.posture := rfl
@[simp] theorem recomputeTarget_resolver (a : OutputIx) : (recomputeTarget s a).resolver = s.resolver := rfl
@[simp] theorem recomputeTarget_measure (a : OutputIx) : (recomputeTarget s a).measure = s.measure := rfl
@[simp] theorem recomputeTarget_outputs (a : OutputIx) : (recomputeTarget s a).outputs = s.outputs := rfl
@[simp] theorem recomputeTarget_trip (a : OutputIx) : (recomputeTarget s a).trip = s.trip := rfl
@[simp] theorem recomputeTarget_link (a : OutputIx) : (recomputeTarget s a).link = s.link := rfl
@[simp] theorem recomputeTarget_profile (a : OutputIx) : (recomputeTarget s a).profile = s.profile := rfl
@[simp] theorem recomputeTarget_fresh (a : OutputIx) : (recomputeTarget s a).fresh = s.fresh := rfl
@[simp] theorem recomputeTarget_pending (a : OutputIx) : (recomputeTarget s a).pending = s.pending := rfl
@[simp] theorem recomputeTarget_governor_subjects (a : OutputIx) : (recomputeTarget s a).governor.subjects = s.governor.subjects := rfl
@[simp] theorem recomputeTarget_governor_routes (a : OutputIx) : (recomputeTarget s a).governor.routes = s.governor.routes := rfl

/-- A recompute of a target writes that target from the routes, the pressures and the fan cap (R129). -/
@[simp] theorem recomputeTarget_targets (a : OutputIx) :
    (recomputeTarget s a).governor.targets = s.governor.targets.set a (targetLevel s.governor s.fanCap a) := rfl

@[simp] theorem recompute_timebase (sub : Subject) : (recompute s sub).timebase = s.timebase := by
  unfold recompute; dsimp only; split <;> rfl
@[simp] theorem recompute_table (sub : Subject) : (recompute s sub).table = s.table := by
  unfold recompute; dsimp only; split <;> rfl
@[simp] theorem recompute_commitTimers (sub : Subject) : (recompute s sub).commitTimers = s.commitTimers := by
  unfold recompute; dsimp only; split <;> rfl
@[simp] theorem recompute_leaseClock (sub : Subject) : (recompute s sub).leaseClock = s.leaseClock := by
  unfold recompute; dsimp only; split <;> rfl
@[simp] theorem recompute_posture (sub : Subject) : (recompute s sub).posture = s.posture := by
  unfold recompute; dsimp only; split <;> rfl
@[simp] theorem recompute_measure (sub : Subject) : (recompute s sub).measure = s.measure := by
  unfold recompute; dsimp only; split <;> rfl
@[simp] theorem recompute_outputs (sub : Subject) : (recompute s sub).outputs = s.outputs := by
  unfold recompute; dsimp only; split <;> rfl
@[simp] theorem recompute_trip (sub : Subject) : (recompute s sub).trip = s.trip := by unfold recompute; dsimp only; split <;> rfl
@[simp] theorem recompute_link (sub : Subject) : (recompute s sub).link = s.link := by unfold recompute; dsimp only; split <;> rfl
@[simp] theorem recompute_profile (sub : Subject) : (recompute s sub).profile = s.profile := by
  unfold recompute; dsimp only; split <;> rfl
@[simp] theorem recompute_fresh (sub : Subject) : (recompute s sub).fresh = s.fresh := by
  unfold recompute; dsimp only; split <;> rfl
@[simp] theorem recompute_pending (sub : Subject) : (recompute s sub).pending = s.pending := by
  unfold recompute; dsimp only; split <;> rfl
@[simp] theorem recompute_governor_subjects (sub : Subject) : (recompute s sub).governor.subjects = s.governor.subjects := by
  unfold recompute; dsimp only; split <;> rfl
@[simp] theorem recompute_governor_routes (sub : Subject) : (recompute s sub).governor.routes = s.governor.routes := by
  unfold recompute; dsimp only; split <;> rfl

/-- A recompute writes the entry of its subject alone, from the table and the current posture (R89). -/
@[simp] theorem recompute_resolver (sub : Subject) :
    (recompute s sub).resolver = s.resolver.set sub (computeEntry s.table s.posture.current sub) := by
  unfold recompute; dsimp only; split <;> rfl

@[simp] theorem recomputeList_timebase (l : List Subject) : (recomputeList s l).timebase = s.timebase := by
  induction l generalizing s with
  | nil => rfl
  | cons a l ih => exact (ih (recompute s a)).trans (by simp)
@[simp] theorem recomputeList_table (l : List Subject) : (recomputeList s l).table = s.table := by
  induction l generalizing s with
  | nil => rfl
  | cons a l ih => exact (ih (recompute s a)).trans (by simp)
@[simp] theorem recomputeList_commitTimers (l : List Subject) : (recomputeList s l).commitTimers = s.commitTimers := by
  induction l generalizing s with
  | nil => rfl
  | cons a l ih => exact (ih (recompute s a)).trans (by simp)
@[simp] theorem recomputeList_leaseClock (l : List Subject) : (recomputeList s l).leaseClock = s.leaseClock := by
  induction l generalizing s with
  | nil => rfl
  | cons a l ih => exact (ih (recompute s a)).trans (by simp)
@[simp] theorem recomputeList_posture (l : List Subject) : (recomputeList s l).posture = s.posture := by
  induction l generalizing s with
  | nil => rfl
  | cons a l ih => exact (ih (recompute s a)).trans (by simp)
@[simp] theorem recomputeList_measure (l : List Subject) : (recomputeList s l).measure = s.measure := by
  induction l generalizing s with
  | nil => rfl
  | cons a l ih => exact (ih (recompute s a)).trans (by simp)
@[simp] theorem recomputeList_outputs (l : List Subject) : (recomputeList s l).outputs = s.outputs := by
  induction l generalizing s with
  | nil => rfl
  | cons a l ih => exact (ih (recompute s a)).trans (by simp)
@[simp] theorem recomputeList_trip (l : List Subject) : (recomputeList s l).trip = s.trip := by
  induction l generalizing s with
  | nil => rfl
  | cons a l ih => exact (ih (recompute s a)).trans (by simp)
@[simp] theorem recomputeList_link (l : List Subject) : (recomputeList s l).link = s.link := by
  induction l generalizing s with
  | nil => rfl
  | cons a l ih => exact (ih (recompute s a)).trans (by simp)
@[simp] theorem recomputeList_profile (l : List Subject) : (recomputeList s l).profile = s.profile := by
  induction l generalizing s with
  | nil => rfl
  | cons a l ih => exact (ih (recompute s a)).trans (by simp)
@[simp] theorem recomputeList_fresh (l : List Subject) : (recomputeList s l).fresh = s.fresh := by
  induction l generalizing s with
  | nil => rfl
  | cons a l ih => exact (ih (recompute s a)).trans (by simp)
@[simp] theorem recomputeList_pending (l : List Subject) : (recomputeList s l).pending = s.pending := by
  induction l generalizing s with
  | nil => rfl
  | cons a l ih => exact (ih (recompute s a)).trans (by simp)
@[simp] theorem recomputeList_governor_subjects (l : List Subject) : (recomputeList s l).governor.subjects = s.governor.subjects := by
  induction l generalizing s with
  | nil => rfl
  | cons a l ih => exact (ih (recompute s a)).trans (by simp)
@[simp] theorem recomputeList_governor_routes (l : List Subject) : (recomputeList s l).governor.routes = s.governor.routes := by
  induction l generalizing s with
  | nil => rfl
  | cons a l ih => exact (ih (recompute s a)).trans (by simp)

@[simp] theorem recomputeAll_timebase : (recomputeAll s).timebase = s.timebase := by unfold recomputeAll; simp
@[simp] theorem recomputeAll_table : (recomputeAll s).table = s.table := by unfold recomputeAll; simp
@[simp] theorem recomputeAll_commitTimers : (recomputeAll s).commitTimers = s.commitTimers := by unfold recomputeAll; simp
@[simp] theorem recomputeAll_leaseClock : (recomputeAll s).leaseClock = s.leaseClock := by unfold recomputeAll; simp
@[simp] theorem recomputeAll_posture : (recomputeAll s).posture = s.posture := by unfold recomputeAll; simp
@[simp] theorem recomputeAll_measure : (recomputeAll s).measure = s.measure := by unfold recomputeAll; simp
@[simp] theorem recomputeAll_outputs : (recomputeAll s).outputs = s.outputs := by unfold recomputeAll; simp
@[simp] theorem recomputeAll_trip : (recomputeAll s).trip = s.trip := by unfold recomputeAll; simp
@[simp] theorem recomputeAll_link : (recomputeAll s).link = s.link := by unfold recomputeAll; simp
@[simp] theorem recomputeAll_profile : (recomputeAll s).profile = s.profile := by unfold recomputeAll; simp
@[simp] theorem recomputeAll_fresh : (recomputeAll s).fresh = s.fresh := by unfold recomputeAll; simp
@[simp] theorem recomputeAll_pending : (recomputeAll s).pending = s.pending := by unfold recomputeAll; simp
@[simp] theorem recomputeAll_governor_subjects : (recomputeAll s).governor.subjects = s.governor.subjects := by
  unfold recomputeAll; simp
@[simp] theorem recomputeAll_governor_routes : (recomputeAll s).governor.routes = s.governor.routes := by
  unfold recomputeAll; simp

/-- The fan cap is read from the entries alone (R96). -/
theorem fanCap_congr {s t : State} (h : s.resolver = t.resolver) : s.fanCap = t.fanCap := by unfold State.fanCap; rw [h]

/-- A recompute that leaves the fan cap leaves the Governor (R97). -/
theorem recompute_governor_of_fanCap {sub : Subject} (h : (recompute s sub).fanCap = s.fanCap) : (recompute s sub).governor = s.governor := by
  unfold recompute at h ⊢
  dsimp only at h ⊢
  split
  · rfl
  · rename_i h2
    rw [if_neg h2] at h
    exact absurd h h2

/-- Recomputes touch the entries and the target levels alone. -/
theorem recomputeList_eq (l : List Subject) :
    recomputeList s l = { s with
      resolver := (recomputeList s l).resolver
      governor := { s.governor with targets := (recomputeList s l).governor.targets } } := by
  induction l generalizing s with
  | nil => rfl
  | cons a l ih =>
    show recomputeList (recompute s a) l = _
    rw [ih (recompute s a)]
    apply State.eq_of_fields <;> simp [recomputeList]

/-- Recomputes of a list write the entries of its subjects, from the table and the current posture as they stand (R89, R92). -/
theorem recomputeList_entry (l : List Subject) (sub : Subject) :
    (recomputeList s l).resolver[sub] = if sub ∈ l then computeEntry s.table s.posture.current sub else s.resolver[sub] := by
  induction l generalizing s with
  | nil => simp [recomputeList]
  | cons a l ih =>
    show (recomputeList (recompute s a) l).resolver[sub] = _
    rw [ih]
    simp only [recompute_table, recompute_posture, recompute_resolver, List.mem_cons]
    by_cases h : sub ∈ l
    · simp [h]
    · by_cases h2 : sub = a
      · subst h2; simp [h]
      · have : a.val ≠ sub.val := fun h3 => h2 (Fin.ext h3.symm)
        simp [h, h2, this]

/-- A recompute of a subject other than FAN_CAP leaves the fan cap, and so the Governor, as they were (R97). -/
theorem recompute_fanCap_of_ne {sub : Subject} (h : sub ≠ fanCapSubject) : (recompute s sub).fanCap = s.fanCap := by
  have : sub.val ≠ fanCapSubject.val := fun h2 => h (Fin.ext h2)
  simp [State.fanCap, this]

/-- A recompute of a subject other than FAN_CAP leaves the Governor as it was (R97). -/
theorem recompute_governor_of_ne {sub : Subject} (h : sub ≠ fanCapSubject) : (recompute s sub).governor = s.governor := by
  have h2 := recompute_fanCap_of_ne s h
  unfold recompute at h2 ⊢
  dsimp only at h2 ⊢
  split
  · rfl
  · rename_i h3
    rw [if_neg h3] at h2
    exact absurd h2 h3

/-- Recomputes of subjects other than FAN_CAP leave the fan cap and the Governor (R97). -/
theorem recomputeList_of_not_mem {l : List Subject} (h : fanCapSubject ∉ l) :
    (recomputeList s l).fanCap = s.fanCap ∧ (recomputeList s l).governor = s.governor := by
  induction l generalizing s with
  | nil => exact ⟨rfl, rfl⟩
  | cons a l ih =>
    rw [List.mem_cons, not_or] at h
    obtain ⟨h1, h2⟩ := ih (recompute s a) h.2
    exact ⟨h1.trans (recompute_fanCap_of_ne s (Ne.symm h.1)), h2.trans (recompute_governor_of_ne s (Ne.symm h.1))⟩

/-- Recomputes of subjects, once each, that leave the fan cap leave the Governor (R97). -/
theorem recomputeList_governor_of_fanCap {l : List Subject} (hl : l.Nodup) (h : (recomputeList s l).fanCap = s.fanCap) :
    (recomputeList s l).governor = s.governor := by
  induction l generalizing s with
  | nil => rfl
  | cons a l ih =>
    obtain ⟨hn, hl⟩ := List.nodup_cons.1 hl
    by_cases ha : a = fanCapSubject
    · subst ha
      obtain ⟨h1, h2⟩ := recomputeList_of_not_mem (recompute s fanCapSubject) hn
      exact h2.trans (recompute_governor_of_fanCap s (h1.symm.trans h))
    · exact (ih (recompute s a) hl (h.trans (recompute_fanCap_of_ne s ha).symm)).trans (recompute_governor_of_ne s ha)

/-- A recompute of every subject that leaves the fan cap leaves the Governor (R97). -/
theorem recomputeAll_governor_of_fanCap (h : (recomputeAll s).fanCap = s.fanCap) : (recomputeAll s).governor = s.governor := by
  unfold recomputeAll at h ⊢
  exact recomputeList_governor_of_fanCap s (List.nodup_finRange 10) h

/-- A recompute of every subject touches the entries and the target levels alone. -/
theorem recomputeAll_eq :
    recomputeAll s = { s with
      resolver := (recomputeAll s).resolver
      governor := { s.governor with targets := (recomputeAll s).governor.targets } } := by
  unfold recomputeAll
  exact recomputeList_eq s _

/-- After a recompute of every subject every entry is what the table and the current posture give (R78, R23). -/
theorem recomputeAll_entry (sub : Subject) : (recomputeAll s).resolver[sub] = computeEntry s.table s.posture.current sub := by
  unfold recomputeAll
  rw [recomputeList_entry]
  simp

/-! ### Trips and outputs -/

@[simp] theorem handOver_timebase : (handOver s).timebase = s.timebase := rfl
@[simp] theorem handOver_table : (handOver s).table = s.table := rfl
@[simp] theorem handOver_commitTimers : (handOver s).commitTimers = s.commitTimers := rfl
@[simp] theorem handOver_leaseClock : (handOver s).leaseClock = s.leaseClock := rfl
@[simp] theorem handOver_posture : (handOver s).posture = s.posture := rfl
@[simp] theorem handOver_resolver : (handOver s).resolver = s.resolver := rfl
@[simp] theorem handOver_measure : (handOver s).measure = s.measure := rfl
@[simp] theorem handOver_governor : (handOver s).governor = s.governor := rfl
@[simp] theorem handOver_trip : (handOver s).trip = s.trip := rfl
@[simp] theorem handOver_link : (handOver s).link = s.link := rfl
@[simp] theorem handOver_profile : (handOver s).profile = s.profile := rfl
@[simp] theorem handOver_fresh : (handOver s).fresh = s.fresh := rfl
@[simp] theorem handOver_pending : (handOver s).pending = s.pending := rfl

/-- The hand-over judges every output from the two sets (R141). -/
theorem handOver_output (ix : OutputIx) : (handOver s).outputs[ix] = judgeOutput s.trip.active s.trip.latched s.outputs[ix] := by
  simp [handOver]

@[simp] theorem judgeSources_timebase (w : SourceSet) : (judgeSources s w).timebase = s.timebase := by
  unfold judgeSources; dsimp only; split <;> [rfl; (split <;> rfl)]
@[simp] theorem judgeSources_table (w : SourceSet) : (judgeSources s w).table = s.table := by
  unfold judgeSources; dsimp only; split <;> [rfl; (split <;> rfl)]
@[simp] theorem judgeSources_commitTimers (w : SourceSet) : (judgeSources s w).commitTimers = s.commitTimers := by
  unfold judgeSources; dsimp only; split <;> [rfl; (split <;> rfl)]
@[simp] theorem judgeSources_leaseClock (w : SourceSet) : (judgeSources s w).leaseClock = s.leaseClock := by
  unfold judgeSources; dsimp only; split <;> [rfl; (split <;> rfl)]
@[simp] theorem judgeSources_posture (w : SourceSet) : (judgeSources s w).posture = s.posture := by
  unfold judgeSources; dsimp only; split <;> [rfl; (split <;> rfl)]
@[simp] theorem judgeSources_resolver (w : SourceSet) : (judgeSources s w).resolver = s.resolver := by
  unfold judgeSources; dsimp only; split <;> [rfl; (split <;> rfl)]
@[simp] theorem judgeSources_measure (w : SourceSet) : (judgeSources s w).measure = s.measure := by
  unfold judgeSources; dsimp only; split <;> [rfl; (split <;> rfl)]
@[simp] theorem judgeSources_governor (w : SourceSet) : (judgeSources s w).governor = s.governor := by
  unfold judgeSources; dsimp only; split <;> [rfl; (split <;> rfl)]
@[simp] theorem judgeSources_profile (w : SourceSet) : (judgeSources s w).profile = s.profile := by
  unfold judgeSources; dsimp only; split <;> [rfl; (split <;> rfl)]
@[simp] theorem judgeSources_fresh (w : SourceSet) : (judgeSources s w).fresh = s.fresh := by
  unfold judgeSources; dsimp only; split <;> [rfl; (split <;> rfl)]
@[simp] theorem judgeSources_pending (w : SourceSet) : (judgeSources s w).pending = s.pending := by
  unfold judgeSources; dsimp only; split <;> [rfl; (split <;> rfl)]
@[simp] theorem judgeSources_link_execution (w : SourceSet) : (judgeSources s w).link.execution = s.link.execution := by
  unfold judgeSources; dsimp only; split <;> [rfl; (split <;> rfl)]
@[simp] theorem judgeSources_link_slot (w : SourceSet) : (judgeSources s w).link.slot = s.link.slot := by
  unfold judgeSources; dsimp only; split <;> [rfl; (split <;> rfl)]
@[simp] theorem judgeSources_link_sdo (w : SourceSet) : (judgeSources s w).link.sdo = s.link.sdo := by
  unfold judgeSources; dsimp only; split <;> [rfl; (split <;> rfl)]
@[simp] theorem judgeSources_link_voidFrame (w : SourceSet) : (judgeSources s w).link.voidFrame = s.link.voidFrame := by
  unfold judgeSources; dsimp only; split <;> [rfl; (split <;> rfl)]

@[simp] theorem handSaturated_timebase : (handSaturated s).timebase = s.timebase := by simp [handSaturated]
@[simp] theorem handSaturated_table : (handSaturated s).table = s.table := by simp [handSaturated]
@[simp] theorem handSaturated_commitTimers : (handSaturated s).commitTimers = s.commitTimers := by simp [handSaturated]
@[simp] theorem handSaturated_leaseClock : (handSaturated s).leaseClock = s.leaseClock := by simp [handSaturated]
@[simp] theorem handSaturated_posture : (handSaturated s).posture = s.posture := by simp [handSaturated]
@[simp] theorem handSaturated_resolver : (handSaturated s).resolver = s.resolver := by simp [handSaturated]
@[simp] theorem handSaturated_measure : (handSaturated s).measure = s.measure := by simp [handSaturated]
@[simp] theorem handSaturated_governor : (handSaturated s).governor = s.governor := by simp [handSaturated]
@[simp] theorem handSaturated_profile : (handSaturated s).profile = s.profile := by simp [handSaturated]
@[simp] theorem handSaturated_fresh : (handSaturated s).fresh = s.fresh := by simp [handSaturated]
@[simp] theorem handSaturated_pending : (handSaturated s).pending = s.pending := by simp [handSaturated]
@[simp] theorem handSaturated_link_execution : (handSaturated s).link.execution = s.link.execution := by simp [handSaturated]
@[simp] theorem handSaturated_link_slot : (handSaturated s).link.slot = s.link.slot := by simp [handSaturated]
@[simp] theorem handSaturated_link_sdo : (handSaturated s).link.sdo = s.link.sdo := by simp [handSaturated]
@[simp] theorem handSaturated_link_voidFrame : (handSaturated s).link.voidFrame = s.link.voidFrame := by simp [handSaturated]

/-! ### Evaluations and completions -/

/-- The recomputes of a list of targets write targets alone. -/
theorem recomputeTargets_eq (l : List OutputIx) :
    l.foldl recomputeTarget s = s.withGovernor { s.governor with targets := (l.foldl recomputeTarget s).governor.targets } := by
  induction l generalizing s with
  | nil => rfl
  | cons a l ih => exact (ih (recomputeTarget s a)).trans rfl

@[simp] theorem recomputeTargets_timebase (l : List OutputIx) : (l.foldl recomputeTarget s).timebase = s.timebase := by
  rw [recomputeTargets_eq]; rfl
@[simp] theorem recomputeTargets_table (l : List OutputIx) : (l.foldl recomputeTarget s).table = s.table := by
  rw [recomputeTargets_eq]; rfl
@[simp] theorem recomputeTargets_commitTimers (l : List OutputIx) : (l.foldl recomputeTarget s).commitTimers = s.commitTimers := by
  rw [recomputeTargets_eq]; rfl
@[simp] theorem recomputeTargets_leaseClock (l : List OutputIx) : (l.foldl recomputeTarget s).leaseClock = s.leaseClock := by
  rw [recomputeTargets_eq]; rfl
@[simp] theorem recomputeTargets_posture (l : List OutputIx) : (l.foldl recomputeTarget s).posture = s.posture := by
  rw [recomputeTargets_eq]; rfl
@[simp] theorem recomputeTargets_resolver (l : List OutputIx) : (l.foldl recomputeTarget s).resolver = s.resolver := by
  rw [recomputeTargets_eq]; rfl
@[simp] theorem recomputeTargets_measure (l : List OutputIx) : (l.foldl recomputeTarget s).measure = s.measure := by
  rw [recomputeTargets_eq]; rfl
@[simp] theorem recomputeTargets_outputs (l : List OutputIx) : (l.foldl recomputeTarget s).outputs = s.outputs := by
  rw [recomputeTargets_eq]; rfl
@[simp] theorem recomputeTargets_trip (l : List OutputIx) : (l.foldl recomputeTarget s).trip = s.trip := by
  rw [recomputeTargets_eq]; rfl
@[simp] theorem recomputeTargets_link (l : List OutputIx) : (l.foldl recomputeTarget s).link = s.link := by
  rw [recomputeTargets_eq]; rfl
@[simp] theorem recomputeTargets_profile (l : List OutputIx) : (l.foldl recomputeTarget s).profile = s.profile := by
  rw [recomputeTargets_eq]; rfl
@[simp] theorem recomputeTargets_fresh (l : List OutputIx) : (l.foldl recomputeTarget s).fresh = s.fresh := by
  rw [recomputeTargets_eq]; rfl
@[simp] theorem recomputeTargets_pending (l : List OutputIx) : (l.foldl recomputeTarget s).pending = s.pending := by
  rw [recomputeTargets_eq]; rfl
@[simp] theorem recomputeTargets_governor_subjects (l : List OutputIx) : (l.foldl recomputeTarget s).governor.subjects = s.governor.subjects := by
  rw [recomputeTargets_eq]; rfl
@[simp] theorem recomputeTargets_governor_routes (l : List OutputIx) : (l.foldl recomputeTarget s).governor.routes = s.governor.routes := by
  rw [recomputeTargets_eq]; rfl

@[simp] theorem evaluate_timebase (m : Measured) (v : Nat) : (evaluate s m v).timebase = s.timebase := by
  unfold evaluate; dsimp only; split <;> split <;> simp
@[simp] theorem evaluate_table (m : Measured) (v : Nat) : (evaluate s m v).table = s.table := by
  unfold evaluate; dsimp only; split <;> split <;> simp
@[simp] theorem evaluate_commitTimers (m : Measured) (v : Nat) : (evaluate s m v).commitTimers = s.commitTimers := by
  unfold evaluate; dsimp only; split <;> split <;> simp
@[simp] theorem evaluate_leaseClock (m : Measured) (v : Nat) : (evaluate s m v).leaseClock = s.leaseClock := by
  unfold evaluate; dsimp only; split <;> split <;> simp
@[simp] theorem evaluate_posture (m : Measured) (v : Nat) : (evaluate s m v).posture = s.posture := by
  unfold evaluate; dsimp only; split <;> split <;> simp
@[simp] theorem evaluate_resolver (m : Measured) (v : Nat) : (evaluate s m v).resolver = s.resolver := by
  unfold evaluate; dsimp only; split <;> split <;> simp
@[simp] theorem evaluate_measure (m : Measured) (v : Nat) : (evaluate s m v).measure = s.measure := by
  unfold evaluate; dsimp only; split <;> split <;> simp
@[simp] theorem evaluate_profile (m : Measured) (v : Nat) : (evaluate s m v).profile = s.profile := by
  unfold evaluate; dsimp only; split <;> split <;> simp
@[simp] theorem evaluate_fresh (m : Measured) (v : Nat) : (evaluate s m v).fresh = s.fresh := by
  unfold evaluate; dsimp only; split <;> split <;> simp
@[simp] theorem evaluate_pending (m : Measured) (v : Nat) : (evaluate s m v).pending = s.pending := by
  unfold evaluate; dsimp only; split <;> split <;> simp
@[simp] theorem evaluate_link_execution (m : Measured) (v : Nat) : (evaluate s m v).link.execution = s.link.execution := by
  unfold evaluate; dsimp only; split <;> split <;> simp
@[simp] theorem evaluate_link_slot (m : Measured) (v : Nat) : (evaluate s m v).link.slot = s.link.slot := by
  unfold evaluate; dsimp only; split <;> split <;> simp
@[simp] theorem evaluate_link_sdo (m : Measured) (v : Nat) : (evaluate s m v).link.sdo = s.link.sdo := by
  unfold evaluate; dsimp only; split <;> split <;> simp
@[simp] theorem evaluate_link_voidFrame (m : Measured) (v : Nat) : (evaluate s m v).link.voidFrame = s.link.voidFrame := by
  unfold evaluate; dsimp only; split <;> split <;> simp
@[simp] theorem evaluate_governor_routes (m : Measured) (v : Nat) : (evaluate s m v).governor.routes = s.governor.routes := by
  unfold evaluate; dsimp only; split <;> split <;> simp

@[simp] theorem filterUpdate_timebase (code : BitVec 10) (m : Measured) : (filterUpdate s code m).timebase = s.timebase := by
  simp [filterUpdate]
@[simp] theorem filterUpdate_table (code : BitVec 10) (m : Measured) : (filterUpdate s code m).table = s.table := by
  simp [filterUpdate]
@[simp] theorem filterUpdate_commitTimers (code : BitVec 10) (m : Measured) : (filterUpdate s code m).commitTimers = s.commitTimers := by
  simp [filterUpdate]
@[simp] theorem filterUpdate_leaseClock (code : BitVec 10) (m : Measured) : (filterUpdate s code m).leaseClock = s.leaseClock := by
  simp [filterUpdate]
@[simp] theorem filterUpdate_posture (code : BitVec 10) (m : Measured) : (filterUpdate s code m).posture = s.posture := by
  simp [filterUpdate]
@[simp] theorem filterUpdate_resolver (code : BitVec 10) (m : Measured) : (filterUpdate s code m).resolver = s.resolver := by
  simp [filterUpdate]
@[simp] theorem filterUpdate_profile (code : BitVec 10) (m : Measured) : (filterUpdate s code m).profile = s.profile := by
  simp [filterUpdate]
@[simp] theorem filterUpdate_fresh (code : BitVec 10) (m : Measured) : (filterUpdate s code m).fresh = s.fresh := by
  simp [filterUpdate]
@[simp] theorem filterUpdate_pending (code : BitVec 10) (m : Measured) : (filterUpdate s code m).pending = s.pending := by
  simp [filterUpdate]
@[simp] theorem filterUpdate_link_execution (code : BitVec 10) (m : Measured) : (filterUpdate s code m).link.execution = s.link.execution := by
  simp [filterUpdate]
@[simp] theorem filterUpdate_link_slot (code : BitVec 10) (m : Measured) : (filterUpdate s code m).link.slot = s.link.slot := by
  simp [filterUpdate]
@[simp] theorem filterUpdate_link_sdo (code : BitVec 10) (m : Measured) : (filterUpdate s code m).link.sdo = s.link.sdo := by
  simp [filterUpdate]
@[simp] theorem filterUpdate_link_voidFrame (code : BitVec 10) (m : Measured) : (filterUpdate s code m).link.voidFrame = s.link.voidFrame := by
  simp [filterUpdate]
@[simp] theorem filterUpdate_governor_routes (code : BitVec 10) (m : Measured) : (filterUpdate s code m).governor.routes = s.governor.routes := by
  simp [filterUpdate]

/-- An operation that keeps a part of the state keeps it through a list of them. -/
theorem foldl_keeps {α β : Type} (part : State → β) (f : State → α → State) (h : ∀ s a, part (f s a) = part s) (l : List α) :
    part (l.foldl f s) = part s := by
  induction l generalizing s with
  | nil => rfl
  | cons a l ih => exact (ih (f s a)).trans (h s a)

/-- Whichever order is taken, the result is that of one of the two. -/
theorem eitherOrder_cases (f g : State → State) : eitherOrder f g s = g (f s) ∨ eitherOrder f g s = f (g s) := by
  unfold eitherOrder; dsimp only; split
  · exact .inl rfl
  · split
    · exact .inl rfl
    · exact .inr rfl

/-- What two actions both keep is kept in either order. -/
theorem eitherOrder_keeps {β : Type} (part : State → β) (f g : State → State) (hf : ∀ s, part (f s) = part s) (hg : ∀ s, part (g s) = part s) :
    part (eitherOrder f g s) = part s := by
  rcases eitherOrder_cases s f g with h | h <;> rw [h]
  · exact (hg _).trans (hf _)
  · exact (hf _).trans (hg _)

/-- What a filter update and a judgement both keep, and the latest codes and the counter of free values do not reach, a completion keeps. -/
theorem completion_keeps {β : Type} (part : State → β) (hm : ∀ s x, part (s.withMeasure x) = part s)
    (hu : ∀ s code m, part (filterUpdate s code m) = part s) (hj : ∀ s w, part (judgeSources s w) = part s)
    (hf : ∀ s n, part (s.withFresh n) = part s) (c : Channel) (code : BitVec 10) : part (completion s c code) = part s := by
  unfold completion; dsimp only
  rw [hf, eitherOrder_keeps _ part _ _ (fun s => foldl_keeps s part _ (fun s m => hu s code m) _) (fun s => hj s _), hm]

@[simp] theorem completion_timebase (c : Channel) (code : BitVec 10) : (completion s c code).timebase = s.timebase :=
  completion_keeps s (fun t => t.timebase) (by simp) (by simp) (by simp) (by simp) c code
@[simp] theorem completion_table (c : Channel) (code : BitVec 10) : (completion s c code).table = s.table :=
  completion_keeps s (fun t => t.table) (by simp) (by simp) (by simp) (by simp) c code
@[simp] theorem completion_commitTimers (c : Channel) (code : BitVec 10) : (completion s c code).commitTimers = s.commitTimers :=
  completion_keeps s (fun t => t.commitTimers) (by simp) (by simp) (by simp) (by simp) c code
@[simp] theorem completion_leaseClock (c : Channel) (code : BitVec 10) : (completion s c code).leaseClock = s.leaseClock :=
  completion_keeps s (fun t => t.leaseClock) (by simp) (by simp) (by simp) (by simp) c code
@[simp] theorem completion_posture (c : Channel) (code : BitVec 10) : (completion s c code).posture = s.posture :=
  completion_keeps s (fun t => t.posture) (by simp) (by simp) (by simp) (by simp) c code
@[simp] theorem completion_resolver (c : Channel) (code : BitVec 10) : (completion s c code).resolver = s.resolver :=
  completion_keeps s (fun t => t.resolver) (by simp) (by simp) (by simp) (by simp) c code
@[simp] theorem completion_profile (c : Channel) (code : BitVec 10) : (completion s c code).profile = s.profile :=
  completion_keeps s (fun t => t.profile) (by simp) (by simp) (by simp) (by simp) c code
@[simp] theorem completion_pending (c : Channel) (code : BitVec 10) : (completion s c code).pending = s.pending :=
  completion_keeps s (fun t => t.pending) (by simp) (by simp) (by simp) (by simp) c code
@[simp] theorem completion_link_execution (c : Channel) (code : BitVec 10) : (completion s c code).link.execution = s.link.execution :=
  completion_keeps s (fun t => t.link.execution) (by simp) (by simp) (by simp) (by simp) c code
@[simp] theorem completion_link_slot (c : Channel) (code : BitVec 10) : (completion s c code).link.slot = s.link.slot :=
  completion_keeps s (fun t => t.link.slot) (by simp) (by simp) (by simp) (by simp) c code
@[simp] theorem completion_link_sdo (c : Channel) (code : BitVec 10) : (completion s c code).link.sdo = s.link.sdo :=
  completion_keeps s (fun t => t.link.sdo) (by simp) (by simp) (by simp) (by simp) c code
@[simp] theorem completion_link_voidFrame (c : Channel) (code : BitVec 10) : (completion s c code).link.voidFrame = s.link.voidFrame :=
  completion_keeps s (fun t => t.link.voidFrame) (by simp) (by simp) (by simp) (by simp) c code
@[simp] theorem completion_governor_routes (c : Channel) (code : BitVec 10) : (completion s c code).governor.routes = s.governor.routes :=
  completion_keeps s (fun t => t.governor.routes) (by simp) (by simp) (by simp) (by simp) c code

/-! ### Posture changes -/

@[simp] theorem changePosture_timebase (p : Posture) : (changePosture s p).timebase = s.timebase := by simp [changePosture]
@[simp] theorem changePosture_table (p : Posture) : (changePosture s p).table = s.table := by simp [changePosture]
@[simp] theorem changePosture_commitTimers (p : Posture) : (changePosture s p).commitTimers = s.commitTimers := by
  simp [changePosture]
@[simp] theorem changePosture_leaseClock (p : Posture) : (changePosture s p).leaseClock = s.leaseClock := by simp [changePosture]
@[simp] theorem changePosture_measure (p : Posture) : (changePosture s p).measure = s.measure := by simp [changePosture]
@[simp] theorem changePosture_outputs (p : Posture) : (changePosture s p).outputs = s.outputs := by simp [changePosture]
@[simp] theorem changePosture_trip (p : Posture) : (changePosture s p).trip = s.trip := by simp [changePosture]
@[simp] theorem changePosture_profile (p : Posture) : (changePosture s p).profile = s.profile := by simp [changePosture]
@[simp] theorem changePosture_fresh (p : Posture) : (changePosture s p).fresh = s.fresh := by simp [changePosture]
@[simp] theorem changePosture_pending (p : Posture) : (changePosture s p).pending = s.pending := by simp [changePosture]
@[simp] theorem changePosture_governor_subjects (p : Posture) : (changePosture s p).governor.subjects = s.governor.subjects := by
  simp [changePosture]
@[simp] theorem changePosture_governor_routes (p : Posture) : (changePosture s p).governor.routes = s.governor.routes := by
  simp [changePosture]
@[simp] theorem changePosture_link_execution (p : Posture) : (changePosture s p).link.execution = s.link.execution := by
  simp [changePosture]
@[simp] theorem changePosture_link_slot (p : Posture) : (changePosture s p).link.slot = s.link.slot := by simp [changePosture]
@[simp] theorem changePosture_link_sdo (p : Posture) : (changePosture s p).link.sdo = s.link.sdo := by simp [changePosture]
@[simp] theorem changePosture_link_voidFrame (p : Posture) : (changePosture s p).link.voidFrame = s.link.voidFrame := by
  simp [changePosture]

@[simp] theorem runSettle_timebase (x : Settle) : (runSettle s x).timebase = s.timebase := by unfold runSettle; split <;> simp
@[simp] theorem runSettle_table (x : Settle) : (runSettle s x).table = s.table := by unfold runSettle; split <;> simp
@[simp] theorem runSettle_commitTimers (x : Settle) : (runSettle s x).commitTimers = s.commitTimers := by
  unfold runSettle; split <;> simp
@[simp] theorem runSettle_leaseClock (x : Settle) : (runSettle s x).leaseClock = s.leaseClock := by
  unfold runSettle; split <;> simp
@[simp] theorem runSettle_measure (x : Settle) : (runSettle s x).measure = s.measure := by unfold runSettle; split <;> simp
@[simp] theorem runSettle_outputs (x : Settle) : (runSettle s x).outputs = s.outputs := by unfold runSettle; split <;> simp
@[simp] theorem runSettle_trip (x : Settle) : (runSettle s x).trip = s.trip := by unfold runSettle; split <;> simp
@[simp] theorem runSettle_profile (x : Settle) : (runSettle s x).profile = s.profile := by unfold runSettle; split <;> simp
@[simp] theorem runSettle_fresh (x : Settle) : (runSettle s x).fresh = s.fresh := by unfold runSettle; split <;> simp
@[simp] theorem runSettle_pending (x : Settle) : (runSettle s x).pending = s.pending := by unfold runSettle; split <;> simp
@[simp] theorem runSettle_governor_subjects (x : Settle) : (runSettle s x).governor.subjects = s.governor.subjects := by
  unfold runSettle; split <;> simp
@[simp] theorem runSettle_governor_routes (x : Settle) : (runSettle s x).governor.routes = s.governor.routes := by
  unfold runSettle; split <;> simp
@[simp] theorem runSettle_link_execution (x : Settle) : (runSettle s x).link.execution = s.link.execution := by
  unfold runSettle; split <;> simp
@[simp] theorem runSettle_link_slot (x : Settle) : (runSettle s x).link.slot = s.link.slot := by unfold runSettle; split <;> simp
@[simp] theorem runSettle_link_sdo (x : Settle) : (runSettle s x).link.sdo = s.link.sdo := by unfold runSettle; split <;> simp
@[simp] theorem runSettle_link_voidFrame (x : Settle) : (runSettle s x).link.voidFrame = s.link.voidFrame := by
  unfold runSettle; split <;> simp

@[simp] theorem settleAfter_timebase (p : Posture) : (settleAfter s p).timebase = s.timebase := by
  unfold settleAfter startSettle; dsimp only; (repeat' split) <;> simp
@[simp] theorem settleAfter_table (p : Posture) : (settleAfter s p).table = s.table := by
  unfold settleAfter startSettle; dsimp only; (repeat' split) <;> simp
@[simp] theorem settleAfter_commitTimers (p : Posture) : (settleAfter s p).commitTimers = s.commitTimers := by
  unfold settleAfter startSettle; dsimp only; (repeat' split) <;> simp
@[simp] theorem settleAfter_leaseClock (p : Posture) : (settleAfter s p).leaseClock = s.leaseClock := by
  unfold settleAfter startSettle; dsimp only; (repeat' split) <;> simp
@[simp] theorem settleAfter_measure (p : Posture) : (settleAfter s p).measure = s.measure := by
  unfold settleAfter startSettle; dsimp only; (repeat' split) <;> simp
@[simp] theorem settleAfter_outputs (p : Posture) : (settleAfter s p).outputs = s.outputs := by
  unfold settleAfter startSettle; dsimp only; (repeat' split) <;> simp
@[simp] theorem settleAfter_trip (p : Posture) : (settleAfter s p).trip = s.trip := by
  unfold settleAfter startSettle; dsimp only; (repeat' split) <;> simp
@[simp] theorem settleAfter_profile (p : Posture) : (settleAfter s p).profile = s.profile := by
  unfold settleAfter startSettle; dsimp only; (repeat' split) <;> simp
@[simp] theorem settleAfter_fresh (p : Posture) : (settleAfter s p).fresh = s.fresh := by
  unfold settleAfter startSettle; dsimp only; (repeat' split) <;> simp
@[simp] theorem settleAfter_pending (p : Posture) : (settleAfter s p).pending = s.pending := by
  unfold settleAfter startSettle; dsimp only; (repeat' split) <;> simp
@[simp] theorem settleAfter_governor_subjects (p : Posture) : (settleAfter s p).governor.subjects = s.governor.subjects := by
  unfold settleAfter startSettle; dsimp only; (repeat' split) <;> simp
@[simp] theorem settleAfter_governor_routes (p : Posture) : (settleAfter s p).governor.routes = s.governor.routes := by
  unfold settleAfter startSettle; dsimp only; (repeat' split) <;> simp
@[simp] theorem settleAfter_link_execution (p : Posture) : (settleAfter s p).link.execution = s.link.execution := by
  unfold settleAfter startSettle; dsimp only; (repeat' split) <;> simp
@[simp] theorem settleAfter_link_slot (p : Posture) : (settleAfter s p).link.slot = s.link.slot := by
  unfold settleAfter startSettle; dsimp only; (repeat' split) <;> simp
@[simp] theorem settleAfter_link_sdo (p : Posture) : (settleAfter s p).link.sdo = s.link.sdo := by
  unfold settleAfter startSettle; dsimp only; (repeat' split) <;> simp
@[simp] theorem settleAfter_link_voidFrame (p : Posture) : (settleAfter s p).link.voidFrame = s.link.voidFrame := by
  unfold settleAfter startSettle; dsimp only; (repeat' split) <;> simp

end Sys2Proof.Machine
end

