-- ==== Sys2Proof/Laws/Commands.lean ====
section
/-! SUPPORT. A command row with its command in execution is the answer of that command's claim, and an answer is the claim's state with the
response placed (R169). -/

namespace Sys2Proof.Machine

/-- The answer of a claim that left the execution as it was is the completed state. -/
theorem answer_completed {u : State} {e : Execution} (h : u.link.execution = some e) (status : Status) (payload : List Byte) :
    answer (u, ⟨status, payload⟩) = .next (completed u e status payload) := by
  have placed : respond (u, ⟨status, payload⟩) = completed u e status payload := by
    unfold respond
    rw [show (u, (⟨status, payload⟩ : Reply)).1.link.execution = some e from h]
    rfl
  exact congrArg Host.Outcome.next placed

/-- A claim is always answered with a next state. -/
theorem answer_next (p : State × Reply) : answer p = .next (respond p) := rfl

variable {s : State} {e : Execution} (h : s.link.execution = some e)
include h

theorem exec_place (f : PlaceFields) (hc : e.command = .place f) : exec .place s = answer (placeClaim e.requester f s) := by
  simp only [exec, execPlace, State.taken, h, hc, Option.map_some]
theorem exec_change (f : ChangeFields) (hc : e.command = .change f) : exec .change s = answer (changeClaim e.requester f s) := by
  simp only [exec, execChange, State.taken, h, hc, Option.map_some]
theorem exec_renew (f : RenewFields) (hc : e.command = .renew f) : exec .renew s = answer (renewClaim e.requester f s) := by
  simp only [exec, execRenew, State.taken, h, hc, Option.map_some]
theorem exec_retire (f : RetireFields) (hc : e.command = .retire f) : exec .retire s = answer (retireClaim e.requester f s) := by
  simp only [exec, execRetire, State.taken, h, hc, Option.map_some]
theorem exec_sweep (o x : Byte) (hc : e.command = .sweep o x) : exec .sweep s = answer (sweepClaim e.requester o x s) := by
  simp only [exec, execSweep, State.taken, h, hc, Option.map_some]
theorem exec_lookup (k : KeyFields) (hc : e.command = .lookup k) : exec .lookup s = answer (lookupClaim k s) := by
  simp only [exec, execLookup, State.taken, h, hc, Option.map_some]
theorem exec_readSlot (x : Byte) (hc : e.command = .readSlot x) : exec .readSlot s = answer (readSlotClaim x s) := by
  simp only [exec, execReadSlot, State.taken, h, hc, Option.map_some]
theorem exec_list (x : Byte) (hc : e.command = .list x) : exec .list s = answer (listClaim x s) := by
  simp only [exec, execList, State.taken, h, hc, Option.map_some]
theorem exec_readResolved (x : Byte) (hc : e.command = .readResolved x) : exec .readResolved s = answer (readResolvedClaim x s) := by
  simp only [exec, execReadResolved, State.taken, h, hc, Option.map_some]
theorem exec_readPosture (hc : e.command = .readPosture) : exec .readPosture s = answer
    (s, ⟨.ok, posturePayload s.timebase.count s.posture⟩) := by
  simp only [exec, execReadPosture, State.taken, h, hc, Option.map_some]
theorem exec_readMeasure (hc : e.command = .readMeasure) : exec .readMeasure s = answer (s, ⟨.ok, measurePayload s.measure⟩) := by
  simp only [exec, execReadMeasure, State.taken, h, hc, Option.map_some]
theorem exec_readGovernor (hc : e.command = .readGovernor) : exec .readGovernor s = answer (readGovernorClaim s) := by
  simp only [exec, execReadGovernor, State.taken, h, hc, Option.map_some]
theorem exec_readTrip (hc : e.command = .readTrip) : exec .readTrip s = answer (s, ⟨.ok, tripPayload s.trip⟩) := by
  simp only [exec, execReadTrip, State.taken, h, hc, Option.map_some]
theorem exec_readNotices (hc : e.command = .readNotices) : exec .readNotices s = answer
    (s, ⟨.ok, noticesPayload s.link.notices[e.requester]⟩) := by
  simp only [exec, execReadNotices, State.taken, h, hc, Option.map_some]
theorem exec_setNoticeEnable (x : Byte) (hc : e.command = .setNoticeEnable x) : exec .setNoticeEnable s = answer
    (setNoticeEnableClaim e.requester x s) := by
  simp only [exec, execSetNoticeEnable, State.taken, h, hc, Option.map_some]
theorem exec_clearNotices (x : Byte) (hc : e.command = .clearNotices x) : exec .clearNotices s = answer
    (clearNoticesClaim e.requester x s) := by
  simp only [exec, execClearNotices, State.taken, h, hc, Option.map_some]
theorem exec_readProfile (hc : e.command = .readProfile) : exec .readProfile s = answer (s, ⟨.ok, profilePayload s.profile⟩) := by
  simp only [exec, execReadProfile, State.taken, h, hc, Option.map_some]
theorem exec_readSettings (b i : Byte) (hc : e.command = .readSettings b i) : exec .readSettings s = answer (readSettingsClaim b i s) := by
  simp only [exec, execReadSettings, State.taken, h, hc, Option.map_some]
theorem exec_resume (hc : e.command = .resume) : exec .resume s = answer (resumeClaim s) := by
  simp only [exec, execResume, State.taken, h, hc, Option.map_some]
theorem exec_softReset (hc : e.command = .softReset) : exec .softReset s = answer (softResetClaim s) := by
  simp only [exec, execSoftReset, State.taken, h, hc, Option.map_some]
theorem exec_setScan (x : Byte) (hc : e.command = .setScan x) : exec .setScan s = answer (setScanClaim x s) := by
  simp only [exec, execSetScan, State.taken, h, hc, Option.map_some]
theorem exec_setSense (m g k : Byte) (hc : e.command = .setSense m g k) : exec .setSense s = answer (setSenseClaim m g k s) := by
  simp only [exec, execSetSense, State.taken, h, hc, Option.map_some]
theorem exec_setCommit (m n : Byte) (hc : e.command = .setCommit m n) : exec .setCommit s = answer (setCommitClaim m n s) := by
  simp only [exec, execSetCommit, State.taken, h, hc, Option.map_some]
theorem exec_setGovern (f : GovernFields) (hc : e.command = .setGovern f) : exec .setGovern s = answer (setGovernClaim f s) := by
  simp only [exec, execSetGovern, State.taken, h, hc, Option.map_some]
theorem exec_setRoute (m a x : Byte) (hc : e.command = .setRoute m a x) : exec .setRoute s = answer (setRouteClaim m a x s) := by
  simp only [exec, execSetRoute, State.taken, h, hc, Option.map_some]
theorem exec_setOutput (f : OutputFields) (hc : e.command = .setOutput f) : exec .setOutput s = answer (setOutputClaim f s) := by
  simp only [exec, execSetOutput, State.taken, h, hc, Option.map_some]
theorem exec_setTrip (w : BitVec 128) (hc : e.command = .setTrip w) : exec .setTrip s = answer (setTripClaim w s) := by
  simp only [exec, execSetTrip, State.taken, h, hc, Option.map_some]
theorem exec_setPosture (b : Byte) (x y : Half) (hc : e.command = .setPosture b x y) : exec .setPosture s = answer
    (setPostureClaim b x y s) := by
  simp only [exec, execSetPosture, State.taken, h, hc, Option.map_some]

end Sys2Proof.Machine
end

