-- ==== Sys2Proof/Laws/Frames.lean ====
section
/-! SUPPORT. The bytes of a frame from its bits, the codes, the payloads read back, and the order drawn from the free values. -/

namespace Sys2Proof

/-- A byte is its eight bits. -/
theorem natOfBitsMsb_bitsOfByte (b : Byte) : BitVec.ofNat 8 (natOfBitsMsb (bitsOfByte b)) = b := by
  revert b
  decide +kernel

/-- The whole bytes of the bits that carry some bytes, with an incomplete byte after them (R166). -/
theorem wholeBytes_bitsOfBytes (bytes : List Byte) (more : List Bool) (h : more.length < 8) :
    wholeBytes (bitsOfBytes bytes ++ more) = bytes := by
  induction bytes with
  | nil =>
    show wholeBytes more = []
    match more, h with
    | [], _ | [_], _ | [_, _], _ | [_, _, _], _ | [_, _, _, _], _ | [_, _, _, _, _], _ | [_, _, _, _, _, _], _
    | [_, _, _, _, _, _, _], _ => rfl
    | _ :: _ :: _ :: _ :: _ :: _ :: _ :: _ :: _, h => simp only [List.length_cons] at h; omega
  | cons b bytes ih =>
    show BitVec.ofNat 8 (natOfBitsMsb (bitsOfByte b)) :: wholeBytes (bitsOfBytes bytes ++ more) = b :: bytes
    rw [natOfBitsMsb_bitsOfByte, ih]

/-- A code is read from its byte (Table 10-2). -/
theorem codeOfByte_codeByte (c : Code) : codeOfByte (codeByte c) = some c := by cases c <;> decide

/-- The bytes of a two-byte number. -/
theorem halfOfBytes_bytes (w : Half) : halfOfBytes (w.extractLsb' 8 8) (w.extractLsb' 0 8) = w := by
  apply BitVec.eq_of_getLsbD_eq
  intro i hi
  simp only [halfOfBytes, BitVec.getLsbD_append, BitVec.getLsbD_extractLsb']
  by_cases h : i < 8
  · simp [h]
  · simp [h, show i - 8 < 8 by omega, show 8 + (i - 8) = i by omega]

end Sys2Proof

namespace Sys2Proof.Machine

/-- The order drawn is an order of the same list. -/
theorem arrange_perm {α : Type} (fuel n : Nat) (l : List α) : (arrange fuel n l).Perm l := by
  induction fuel generalizing n l with
  | zero => exact List.Perm.refl _
  | succ fuel ih =>
    match l with
    | [] => exact List.Perm.refl _
    | [e] => exact List.Perm.refl _
    | a :: b :: l =>
      unfold arrange
      dsimp only
      split
      · rename_i e he
        obtain ⟨hi, rfl⟩ := List.getElem?_eq_some_iff.1 he
        exact ((ih _ _).cons _).trans (List.getElem_cons_eraseIdx_perm hi)
      · exact List.Perm.refl _

end Sys2Proof.Machine
end

