-- ==== Sys2Proof/Laws/Completion.lean ====
section
/-! SUPPORT. What a CH0 completion into which readers of the targets fall can do: the readers it may take, the order of its parts, and what
it leaves. -/

namespace Sys2Proof.Machine

variable (s : State)

/-! ### What the readers keep -/

@[simp] theorem respond_timebase (p : State × Reply) : (respond p).timebase = p.1.timebase := by unfold respond; split <;> rfl
@[simp] theorem respond_table (p : State × Reply) : (respond p).table = p.1.table := by unfold respond; split <;> rfl
@[simp] theorem respond_commitTimers (p : State × Reply) : (respond p).commitTimers = p.1.commitTimers := by unfold respond; split <;> rfl
@[simp] theorem respond_leaseClock (p : State × Reply) : (respond p).leaseClock = p.1.leaseClock := by unfold respond; split <;> rfl
@[simp] theorem respond_posture (p : State × Reply) : (respond p).posture = p.1.posture := by unfold respond; split <;> rfl
@[simp] theorem respond_resolver (p : State × Reply) : (respond p).resolver = p.1.resolver := by unfold respond; split <;> rfl
@[simp] theorem respond_measure (p : State × Reply) : (respond p).measure = p.1.measure := by unfold respond; split <;> rfl
@[simp] theorem respond_governor (p : State × Reply) : (respond p).governor = p.1.governor := by unfold respond; split <;> rfl
@[simp] theorem respond_outputs (p : State × Reply) : (respond p).outputs = p.1.outputs := by unfold respond; split <;> rfl
@[simp] theorem respond_trip (p : State × Reply) : (respond p).trip = p.1.trip := by unfold respond; split <;> rfl
@[simp] theorem respond_profile (p : State × Reply) : (respond p).profile = p.1.profile := by unfold respond; split <;> rfl
@[simp] theorem respond_fresh (p : State × Reply) : (respond p).fresh = p.1.fresh := by unfold respond; split <;> rfl
@[simp] theorem respond_pending (p : State × Reply) : (respond p).pending = p.1.pending := by unfold respond; split <;> rfl
@[simp] theorem respond_link_sdo (p : State × Reply) : (respond p).link.sdo = p.1.link.sdo := by unfold respond; split <;> rfl
@[simp] theorem respond_link_voidFrame (p : State × Reply) : (respond p).link.voidFrame = p.1.link.voidFrame := by unfold respond; split <;> rfl

@[simp] theorem takePeriodEnd_timebase (ix : OutputIx) : (takePeriodEnd s ix).timebase = s.timebase := rfl
@[simp] theorem takePeriodEnd_table (ix : OutputIx) : (takePeriodEnd s ix).table = s.table := rfl
@[simp] theorem takePeriodEnd_commitTimers (ix : OutputIx) : (takePeriodEnd s ix).commitTimers = s.commitTimers := rfl
@[simp] theorem takePeriodEnd_leaseClock (ix : OutputIx) : (takePeriodEnd s ix).leaseClock = s.leaseClock := rfl
@[simp] theorem takePeriodEnd_posture (ix : OutputIx) : (takePeriodEnd s ix).posture = s.posture := rfl
@[simp] theorem takePeriodEnd_resolver (ix : OutputIx) : (takePeriodEnd s ix).resolver = s.resolver := rfl
@[simp] theorem takePeriodEnd_measure (ix : OutputIx) : (takePeriodEnd s ix).measure = s.measure := rfl
@[simp] theorem takePeriodEnd_governor (ix : OutputIx) : (takePeriodEnd s ix).governor = s.governor := rfl
@[simp] theorem takePeriodEnd_trip (ix : OutputIx) : (takePeriodEnd s ix).trip = s.trip := rfl
@[simp] theorem takePeriodEnd_profile (ix : OutputIx) : (takePeriodEnd s ix).profile = s.profile := rfl
@[simp] theorem takePeriodEnd_fresh (ix : OutputIx) : (takePeriodEnd s ix).fresh = s.fresh := rfl
@[simp] theorem takePeriodEnd_pending (ix : OutputIx) : (takePeriodEnd s ix).pending = s.pending := rfl
@[simp] theorem takePeriodEnd_link (ix : OutputIx) : (takePeriodEnd s ix).link = s.link := rfl

@[simp] theorem readGovernorClaim_state : (readGovernorClaim s).1 = s := rfl

/-! ### The readers, the parts and the completion -/

/-- A reader taken within a CH0 completion stands at its moment: an output whose period ends now, or the READ GOVERNOR in execution. -/
theorem mem_readersWithin {p : CompletionPart} (h : p ∈ readersWithin s) :
    (∃ ix : OutputIx, p = .periodEnd ix ∧ s.outputs[ix].nextEnd = s.timebase)
    ∨ (p = .readGovernor ∧ ∃ e, s.link.execution = some e ∧ e.command = .readGovernor) := by
  unfold readersWithin at h
  rcases List.mem_append.1 h with h | h
  · obtain ⟨ix, hix, rfl⟩ := List.mem_map.1 h
    have := (List.mem_filter.1 hix).2
    simp only [Bool.and_eq_true, beq_iff_eq] at this
    exact .inl ⟨ix, rfl, this.1⟩
  · right
    split at h
    · rename_i r heq
      unfold State.taken at heq
      obtain ⟨e, he, heq⟩ := Option.map_eq_some_iff.1 heq
      have hc : e.command = .readGovernor := (Prod.mk.inj heq).2
      split at h
      · exact ⟨List.mem_singleton.1 h, e, he, hc⟩
      · cases h
    · cases h

/-- No reader stands at the moment, none is taken. -/
theorem readersWithin_nil (ho : ∀ ix : OutputIx, s.outputs[ix].nextEnd ≠ s.timebase)
    (he : ∀ e ∈ s.link.execution, e.command ≠ .readGovernor) : readersWithin s = [] := by
  refine List.eq_nil_iff_forall_not_mem.2 fun p hp => ?_
  rcases mem_readersWithin s hp with ⟨ix, -, h⟩ | ⟨-, e, h, hc⟩
  · exact ho ix h
  · exact he e h hc

/-- The completion of a channel other than CH0 takes no reader. -/
theorem scanCompletion_of_ne {c : Channel} (h : c ≠ 0) (code : BitVec 10) : scanCompletion s c code = completion s c code :=
  if_neg fun hc => h hc.1

/-- A CH0 completion at whose moment no reader stands is taken whole. -/
theorem scanCompletion_of_no_reader (ho : ∀ ix : OutputIx, s.outputs[ix].nextEnd ≠ s.timebase)
    (he : ∀ e ∈ s.link.execution, e.command ≠ .readGovernor) (c : Channel) (code : BitVec 10) :
    scanCompletion s c code = completion s c code :=
  if_neg fun hc => hc.2 (readersWithin_nil s ho he)

/-- A CH0 completion with readers is its three parts and the readers, each once, in some order. -/
theorem completionAround_parts (code : BitVec 10) (readers : List CompletionPart) : ∃ order : List CompletionPart,
    order.Perm ([.evaluation 0, .evaluation 1, .judgement] ++ readers)
    ∧ completionAround s code readers = (order.foldl (takePart code) (s.withMeasure { s.measure with
        latest := s.measure.latest.set 0 (some code) })).withFresh (s.fresh + (readers.length + 3)) := by
  refine ⟨_, arrange_perm ([.evaluation 0, .evaluation 1, .judgement] ++ readers : List CompletionPart).length s.fresh _, ?_⟩
  rw [show readers.length + 3 = ([.evaluation 0, .evaluation 1, .judgement] ++ readers : List CompletionPart).length by simp]
  rfl

/-- What every part keeps, and the latest codes and the counter of free values do not reach, a scan conversion's completion keeps. -/
theorem scanCompletion_keeps {β : Type} (part : State → β) (hm : ∀ s x, part (s.withMeasure x) = part s)
    (hu : ∀ s code m, part (filterUpdate s code m) = part s) (hj : ∀ s w, part (judgeSources s w) = part s)
    (ho : ∀ s ix, part (takePeriodEnd s ix) = part s) (hr : ∀ s, part (respond (readGovernorClaim s)) = part s)
    (hf : ∀ s n, part (s.withFresh n) = part s) (c : Channel) (code : BitVec 10) : part (scanCompletion s c code) = part s := by
  unfold scanCompletion
  split
  · unfold completionAround; dsimp only
    rw [hf, foldl_keeps _ part (takePart code) (fun s p => by cases p <;> simp only [takePart, hu, hj, ho, hr]), hm]
  · exact completion_keeps s part hm hu hj hf c code

@[simp] theorem scanCompletion_timebase (c : Channel) (code : BitVec 10) : (scanCompletion s c code).timebase = s.timebase :=
  scanCompletion_keeps s (fun t => t.timebase) (by simp) (by simp) (by simp) (by simp) (by simp) (by simp) c code
@[simp] theorem scanCompletion_table (c : Channel) (code : BitVec 10) : (scanCompletion s c code).table = s.table :=
  scanCompletion_keeps s (fun t => t.table) (by simp) (by simp) (by simp) (by simp) (by simp) (by simp) c code
@[simp] theorem scanCompletion_commitTimers (c : Channel) (code : BitVec 10) : (scanCompletion s c code).commitTimers = s.commitTimers :=
  scanCompletion_keeps s (fun t => t.commitTimers) (by simp) (by simp) (by simp) (by simp) (by simp) (by simp) c code
@[simp] theorem scanCompletion_leaseClock (c : Channel) (code : BitVec 10) : (scanCompletion s c code).leaseClock = s.leaseClock :=
  scanCompletion_keeps s (fun t => t.leaseClock) (by simp) (by simp) (by simp) (by simp) (by simp) (by simp) c code
@[simp] theorem scanCompletion_posture (c : Channel) (code : BitVec 10) : (scanCompletion s c code).posture = s.posture :=
  scanCompletion_keeps s (fun t => t.posture) (by simp) (by simp) (by simp) (by simp) (by simp) (by simp) c code
@[simp] theorem scanCompletion_resolver (c : Channel) (code : BitVec 10) : (scanCompletion s c code).resolver = s.resolver :=
  scanCompletion_keeps s (fun t => t.resolver) (by simp) (by simp) (by simp) (by simp) (by simp) (by simp) c code
@[simp] theorem scanCompletion_profile (c : Channel) (code : BitVec 10) : (scanCompletion s c code).profile = s.profile :=
  scanCompletion_keeps s (fun t => t.profile) (by simp) (by simp) (by simp) (by simp) (by simp) (by simp) c code
@[simp] theorem scanCompletion_pending (c : Channel) (code : BitVec 10) : (scanCompletion s c code).pending = s.pending :=
  scanCompletion_keeps s (fun t => t.pending) (by simp) (by simp) (by simp) (by simp) (by simp) (by simp) c code
@[simp] theorem scanCompletion_link_sdo (c : Channel) (code : BitVec 10) : (scanCompletion s c code).link.sdo = s.link.sdo :=
  scanCompletion_keeps s (fun t => t.link.sdo) (by simp) (by simp) (by simp) (by simp) (by simp) (by simp) c code
@[simp] theorem scanCompletion_link_voidFrame (c : Channel) (code : BitVec 10) : (scanCompletion s c code).link.voidFrame = s.link.voidFrame :=
  scanCompletion_keeps s (fun t => t.link.voidFrame) (by simp) (by simp) (by simp) (by simp) (by simp) (by simp) c code
@[simp] theorem scanCompletion_governor_routes (c : Channel) (code : BitVec 10) : (scanCompletion s c code).governor.routes = s.governor.routes :=
  scanCompletion_keeps s (fun t => t.governor.routes) (by simp) (by simp) (by simp) (by simp) (by simp) (by simp) c code

end Sys2Proof.Machine
end

