-- ==== Sys2Proof/Laws/Keys.lean ====
section
/-! SUPPORT. The fields of the commands read and refused, the record a key names, the lowest FREE slot, and the keyed checks of Table
    2-3. -/

namespace Sys2Proof.Machine

/-- A byte lies below n exactly as the number it is. -/
theorem below_eq {n : Nat} {b : Byte} {i : Fin n} : below n b = some i ↔ b.toNat = i.val := by
  unfold below; split
  · rename_i h; constructor
    · intro h2; cases h2; rfl
    · intro h2; simp [h2]
  · constructor
    · intro h; cases h
    · intro h2; have := i.2; omega

/-- A byte at n or above is out of range. -/
theorem below_eq_none {n : Nat} {b : Byte} : below n b = none ↔ n ≤ b.toNat := by
  unfold below; split <;> simp <;> omega

/-- A key out of range is no key (R25). -/
theorem keyOf_none {f : KeyFields} (h : ¬ KeyInRange f) : keyOf f = none := by
  unfold keyOf
  unfold KeyInRange at h
  have : below 8 f.owner = none ∨ below 10 f.subject = none := by
    simp only [below_eq_none]; omega
  rcases this with h | h
  · rw [h]
  · rw [h]; cases below 8 f.owner <;> rfl

/-- A key read is the three bytes that carry it. -/
theorem keyOf_some {f : KeyFields} {k : Key} (h : keyOf f = some k) : f.owner.toNat = k.owner.val ∧ f.subject.toNat = k.subject.val ∧
    f.tag = k.tag := by
  unfold keyOf at h
  cases h1 : below 8 f.owner <;> cases h2 : below 10 f.subject <;> simp only [h1, h2] at h
  · cases h
  · cases h
  · cases h
  · cases h; exact ⟨below_eq.1 h1, below_eq.1 h2, rfl⟩

/-- A key in range is read (R25). -/
theorem keyOf_isSome {f : KeyFields} (h : KeyInRange f) : ∃ k, keyOf f = some k := by
  unfold keyOf
  have h1 := below_eq (n := 8) (b := f.owner) (i := ⟨f.owner.toNat, by have := h.1; omega⟩)
  have h2 := below_eq (n := 10) (b := f.subject) (i := ⟨f.subject.toNat, by have := h.2; omega⟩)
  rw [h1.2 rfl, h2.2 rfl]; exact ⟨_, rfl⟩

/-- A record answers to the bytes exactly when it answers to the key read from them. -/
theorem names_iff {f : KeyFields} {k : Key} (h : keyOf f = some k) (r : Record) : Names f r ↔
    (r.owner = k.owner ∧ r.subject = k.subject ∧ r.tag = k.tag) := by
  obtain ⟨h1, h2, h3⟩ := keyOf_some h
  unfold Names
  rw [h1, h2, h3, ← Fin.ext_iff, ← Fin.ext_iff]
  exact ⟨fun ⟨a, b, c⟩ => ⟨a.symm, b.symm, c.symm⟩, fun ⟨a, b, c⟩ => ⟨a.symm, b.symm, c.symm⟩⟩

/-- A present flag other than 0 and 1 is out of range (R177). -/
theorem expectOf_none {f : ExpectFields} (h : ¬ FlagOk f.flag) : expectOf f = none := by
  unfold FlagOk at h; unfold expectOf; simp_all

/-- An expected generation with an acceptable flag is read (R27). -/
theorem expectOf_some {f : ExpectFields} (h : FlagOk f.flag) : expectOf f = some (if f.flag = 1 then some f.generation else none) := by
  unfold expectOf; rcases h with h | h <;> rw [h] <;> rfl

/-- A mask that is empty or names more than three postures is out of range (R30). -/
theorem maskOf_none {b : Byte} (h : b = 0 ∨ 7 < b.toNat) : maskOf b = none := by
  unfold maskOf; rw [if_neg]; rintro ⟨h1, h2⟩; rcases h with h | h
  · exact h1 h
  · omega

/-- Every other mask is read. -/
theorem maskOf_some {b : Byte} (h1 : 1 ≤ b.toNat) (h2 : b.toNat ≤ 7) : maskOf b = some (b.setWidth 3) := by
  unfold maskOf; rw [if_pos]; refine ⟨?_, by omega⟩; rintro rfl; simp at h1

/-- A selector that is neither a subject nor ALL is out of range. -/
theorem selectorOf_none {b : Byte} (h : 9 < b.toNat) (h2 : b ≠ 0xFF) : selectorOf b = none := by
  unfold selectorOf; rw [if_neg h2, below_eq_none.2 (by omega)]; rfl

/-- No record answers to the key: none is found. -/
theorem findKey_none {t : Table} {k : Key} (h : ∀ (j : SlotIx) (q : Record), t[j] = some q → ¬
    (q.owner = k.owner ∧ q.subject = k.subject ∧ q.tag = k.tag)) : findKey t k = none := by
  unfold findKey
  rw [List.findSome?_eq_none_iff]
  intro i _
  cases hi : t[i] with
  | none => rfl
  | some r => dsimp only; rw [if_neg (h i r hi)]

/-- One record answers to the key: it is found. -/
theorem findKey_some {t : Table} {k : Key} {i : SlotIx} {r : Record} (hi : t[i] = some r)
    (hr : r.owner = k.owner ∧ r.subject = k.subject ∧ r.tag = k.tag)
    (h : ∀ (j : SlotIx) (q : Record), t[j] = some q → (q.owner = k.owner ∧ q.subject = k.subject ∧ q.tag = k.tag) → j = i) : findKey t k
      = some (i, r) := by
  cases hf : findKey t k with
  | none =>
    unfold findKey at hf
    rw [List.findSome?_eq_none_iff] at hf
    have := hf i (List.mem_finRange i)
    rw [hi] at this
    dsimp only at this; rw [if_pos hr] at this; cases this
  | some p =>
    unfold findKey at hf
    obtain ⟨j, _, hj⟩ := List.exists_of_findSome?_eq_some hf
    cases hq : t[j] with
    | none => rw [hq] at hj; cases hj
    | some q =>
      rw [hq] at hj
      dsimp only at hj
      split at hj
      · rename_i h2
        cases hj
        have := h j q hq h2
        subst this
        rw [hi] at hq; cases hq; rfl
      · cases hj

/-- The one record the bytes name is found. -/
theorem findKey_holds {t : Table} {f : KeyFields} {k : Key} (hk : keyOf f = some k) {i : SlotIx} {r : Record} (h : HoldsKey t f i r) :
    findKey t k = some (i, r) :=
  findKey_some h.1 ((names_iff hk r).1 h.2.1) fun j q hq h2 => h.2.2 j q hq ((names_iff hk q).2 h2)

/-- Bytes that name no record find none. -/
theorem findKey_noRecord {t : Table} {f : KeyFields} {k : Key} (hk : keyOf f = some k) (h : NoRecord t f) : findKey t k = none :=
  findKey_none fun j q hq h2 => h j q hq ((names_iff hk q).2 h2)

/-- Bytes that name a record are in range. -/
theorem holdsKey_inRange {t : Table} {f : KeyFields} {i : SlotIx} {r : Record} (h : HoldsKey t f i r) : KeyInRange f := by
  obtain ⟨_, ⟨h1, h2, _⟩, _⟩ := h
  have := r.owner.2; have := r.subject.2
  exact ⟨by omega, by omega⟩

/-- The lowest FREE slot (R18). -/
theorem lowestFree_eq_some {t : Table} {i : SlotIx} (h : t[i] = none) (h2 : ∀ j : SlotIx, j < i → t[j] ≠ none) : lowestFree t = some i := by
  unfold lowestFree
  cases hf : (List.finRange 48).find? fun i => t[i].isNone with
  | none => rw [List.find?_eq_none] at hf; have := hf i (List.mem_finRange i); rw [h] at this; simp at this
  | some j =>
    have h3 := List.find?_some hf
    rw [List.find?_eq_some_iff_append] at hf
    obtain ⟨h4, as, bs, h5, h6⟩ := hf
    rcases lt_trichotomy i j with h7 | h7 | h7
    · have : i ∈ as := by
        have hp : (as ++ j :: bs).Pairwise (· < ·) := by rw [← h5]; exact List.pairwise_lt_finRange 48
        have : i ∈ as ++ j :: bs := by rw [← h5]; exact List.mem_finRange i
        rw [List.mem_append, List.mem_cons] at this
        rcases this with h | h | h
        · exact h
        · exact absurd h (ne_of_lt h7)
        · have := (List.pairwise_append.1 hp).2.1
          exact absurd ((List.pairwise_cons.1 this).1 i h) (by simp only [Fin.lt_def] at *; omega)
      have := h6 i this
      rw [h] at this; simp at this
    · rw [h7]
    · have := h2 j h7; simp at h3; exact absurd h3 this

/-- A record written back, in the words of the statements (R28). -/
theorem writeRecord_altered (s : State) (r0 : Requester) (i : SlotIx) (r : Record) : writeRecord s r0 i r = altered s r0 i r := by
  unfold writeRecord altered overrides
  by_cases h : r0 = 0 ∧ r.owner ≠ 0
  · rw [if_pos h]; rw [if_pos (by simp [h])]; rfl
  · rw [if_neg h, if_neg (by simpa using h)]; rfl

/-- Altering a record leaves the execution. -/
theorem altered_execution (s : State) (r0 : Requester) (i : SlotIx) (r : Record) : (altered s r0 i r).link.execution = s.link.execution
    := by
  unfold altered; split <;> rfl

/-- The status of an accepted alteration of a LIVE record (R24). -/
theorem statusOf_live {r : Record} (h : r.state = .live) : statusOf r = if r.pendingBound = none ∧ r.pendingMask = none then .ok else
    .staged := by
  unfold statusOf waits; rw [h]; cases r.pendingBound <;> cases r.pendingMask <;> simp

/-- The owner and requester 0 may alter a record (R26). -/
theorem mayAlter_of {r0 : Requester} {r : Record} (h : r0 = r.owner ∨ r0 = 0) : mayAlter r0 r = true := by
  unfold mayAlter; simpa using h

/-- A keyed command that may alter its record passes the checks after the first (Table 2-3). -/
theorem checkKeyed_ok {s : State} {r0 : Requester} {k : KeyFields} {x : ExpectFields} {i : SlotIx} {r : Record} {kk : Key}
    (hk : keyOf k = some kk)
   (h : MayAlterSlot s r0 k x i r) (rr : Record → Bool) (hr : rr r = false) : checkKeyed s.table r0 kk
     (if x.flag = 1 then some x.generation else none) rr = .ok (i, r) := by
  obtain ⟨h1, h2, h3, h4⟩ := h
  unfold checkKeyed
  rw [findKey_holds hk h1]
  dsimp only
  rw [mayAlter_of h2, hr, h3]
  simp only [Bool.not_true, Bool.false_eq_true, if_false]
  rw [if_neg (by simp), if_neg]
  rintro ⟨h5, h6⟩
  rcases h4 with h | h
  · rw [if_neg (by rw [h]; decide)] at h5; simp at h5
  · rw [if_pos h.1] at h6; exact h6 (by rw [h.2])

/-- A keyed command that may not is refused as Table 2-3 gives. -/
theorem checkKeyed_refused {s : State} {r0 : Requester} {k : KeyFields} {x : ExpectFields} {status : Status} {payload : List Byte}
    {kk : Key} (hk : keyOf k = some kk)
   (h : KeyedRefusal s r0 k x status payload) (rr : Record → Bool)
     (hr : ∀ i r, HoldsKey s.table k i r → (r0 = r.owner ∨ r0 = 0) → rr r = false) : checkKeyed s.table r0 kk
       (if x.flag = 1 then some x.generation else none) rr = .error ⟨status, payload⟩ := by
  unfold checkKeyed
  rcases h with h | ⟨i, r, h1, h2, h3⟩ | ⟨i, r, h1, h2, h3⟩ | ⟨i, r, h1, h2, h3, h4, h5⟩
  · rw [findKey_noRecord hk h]
  · rw [findKey_holds hk h1]; dsimp only
    rw [if_pos]; unfold mayAlter; simp [h2, h3]
  · rw [findKey_holds hk h1]; dsimp only
    rw [mayAlter_of h2, hr i r h1 h2, h3]; rfl
  · rw [findKey_holds hk h1]; dsimp only
    rw [mayAlter_of h2, hr i r h1 h2, h3, if_pos h4]
    simp only [Bool.not_true, Bool.false_eq_true, if_false]
    rw [if_neg (by simp), if_pos]; rfl
    simp [h5]

end Sys2Proof.Machine
end

