-- ==== Sys2Proof/Laws/Sets.lean ====
section
/-! SUPPORT. Sets of sources, kinds and subjects bit by bit: the set of the indexes that satisfy a test, when two sets meet, and a set after one of
its members is judged afresh. -/

namespace Sys2Proof.Machine

/-- Index i is in the set of a test exactly when it satisfies it. -/
theorem bitsWhere_getLsbD {n : Nat} (test : Fin n → Bool) (i : Fin n) : (bitsWhere test).getLsbD i.val = test i := by
  have key : ∀ (l : List (Fin n)) (acc : BitVec n),
      (l.foldl (fun acc i => if test i then acc ||| BitVec.twoPow n i.val else acc) acc).getLsbD i.val
        = (acc.getLsbD i.val || (decide (i ∈ l) && test i)) := by
    intro l
    induction l with
    | nil => intro acc; simp
    | cons a l ih =>
      intro acc
      rw [List.foldl_cons, ih]
      by_cases ha : test a = true
      · rw [if_pos ha]
        by_cases h : i = a
        · subst h; simp [ha]
        · have h2 : ¬ (i.val = a.val) := fun h3 => h (Fin.ext h3)
          simp [h, h2]
      · rw [if_neg ha]
        by_cases h : i = a
        · subst h; simp [ha]
        · simp [h]
  unfold bitsWhere
  rw [key]
  simp

/-- Two sets meet exactly when they share a member. -/
theorem and_ne_zero_iff {n : Nat} (a b : BitVec n) : (a &&& b) ≠ 0 ↔ ∃ i : Fin n, a.getLsbD i.val = true ∧ b.getLsbD i.val = true := by
  rw [ne_eq, BitVec.eq_of_getLsbD_eq_iff]
  simp
  constructor
  · rintro ⟨x, hx, h1, h2⟩
    exact ⟨⟨x, hx⟩, h1, h2⟩
  · rintro ⟨x, h1, h2⟩
    exact ⟨x.val, x.isLt, h1, h2⟩

/-- A source is judged active exactly when it is enabled and its condition holds (R150). -/
theorem judgedSet_getLsbD (t : TripUnit) (latest : Vector (Option (BitVec 10)) 9) (src : Source) :
    (judgedSet t latest).getLsbD src.val = (t.enable.getLsbD src.val && sourceCondition t latest src) := by
  unfold judgedSet
  rw [BitVec.getLsbD_and, bitsWhere_getLsbD]

/-- A set in which one member is judged afresh. -/
theorem judge_one (active judged : SourceSet) (src : Source) :
    ((active &&& ~~~(sourceBit src)) ||| (judged &&& sourceBit src))
      = if judged.getLsbD src.val then active ||| sourceBit src else active &&& ~~~(sourceBit src) := by
  obtain ⟨k, hk⟩ := src
  unfold sourceBit
  apply BitVec.eq_of_getLsbD_eq
  intro i hi
  by_cases h : i = k
  · subst h
    dsimp only
    split
    · rename_i h2; simp only [BitVec.getLsbD_or, BitVec.getLsbD_and, h2]; simp [hi]
    · rename_i h2; simp only [BitVec.getLsbD_or, BitVec.getLsbD_and, h2]; simp [hi]
  · have h2 : (BitVec.twoPow 11 k).getLsbD i = false := by simp [BitVec.getLsbD_twoPow]; omega
    dsimp only
    split <;> simp only [BitVec.getLsbD_or, BitVec.getLsbD_and, BitVec.getLsbD_not, h2] <;> simp [hi]

/-- The firsts of a set are among its members (R162). -/
theorem firstSource_mem {set : SourceSet} {src : Source} (h : firstSource set = some src) : set.getLsbD src.val = true := by
  have h2 := List.find?_some h
  simpa using h2

/-- No source before the first belongs to the set (R162). -/
theorem firstSource_lowest {set : SourceSet} {src other : Source} (h : firstSource set = some src) (hlt : other < src) :
    set.getLsbD other.val = false := by
  obtain ⟨-, i, hi, heq, hbefore⟩ := List.find?_eq_some_iff_getElem.1 h
  have hlt' : other.val < i := by
    have hv : src.val = i := by rw [← heq]; simp
    rw [← hv]; exact hlt
  simpa using hbefore other.val hlt'

/-- A set has a first member exactly when it is not empty. -/
theorem firstSource_isSome {set : SourceSet} : (firstSource set).isSome ↔ set ≠ 0 := by
  unfold firstSource
  rw [List.find?_isSome, ne_eq, BitVec.eq_of_getLsbD_eq_iff]
  simp
  constructor
  · rintro ⟨x, h⟩; exact ⟨x.val, x.isLt, h⟩
  · rintro ⟨x, hx, h⟩; exact ⟨⟨x, hx⟩, h⟩

end Sys2Proof.Machine
end

