-- ==== Sys2Proof/Laws/Table.lean ====
section
/-! SUPPORT. Passes over the table: the records that pass a test, a table rewritten, notices to the owners, and entries that stay the
    same. -/

namespace Sys2Proof.Machine

/-- The slots that hold a record that passes, with their records. -/
theorem slotsWhere_eq (t : Table) (test : Record → Bool) :
    slotsWhere t test = ((List.finRange 48).filter fun i => t[i].any test).filterMap fun i => t[i].map fun r => (i, r) := by
  unfold slotsWhere
  rw [List.filterMap_filter]
  congr 1; funext i
  cases h : t[i] with
  | none => simp
  | some r => by_cases hr : test r = true <;> simp [hr]

/-- The records that pass a test are as many as the slots that hold one. -/
theorem slotsWhere_length (t : Table) (test : Record → Bool) :
    (slotsWhere t test).length = ((List.finRange 48).filter fun i => t[i].any test).length := by
  rw [slotsWhere_eq]
  generalize hl : (List.finRange 48).filter (fun i => t[i].any test) = l
  have : ∀ i ∈ l, t[i].isSome := by
    intro i hi; rw [← hl, List.mem_filter] at hi
    cases h : t[i] with
    | none => rw [h] at hi; simp at hi
    | some r => rfl
  clear hl
  induction l with
  | nil => rfl
  | cons a l ih =>
    obtain ⟨r, hr⟩ := Option.isSome_iff_exists.1 (this a (by simp))
    rw [List.filterMap_cons_some (by rw [hr]; rfl)]
    rw [List.length_cons, ih (fun i hi => this i (List.mem_cons_of_mem _ hi)), List.length_cons]

/-- The records that pass a test, with their slots. -/
theorem mem_slotsWhere {t : Table} {test : Record → Bool} {i : SlotIx} {r : Record} :
    (i, r) ∈ slotsWhere t test ↔ t[i] = some r ∧ test r = true := by
  unfold slotsWhere
  rw [List.mem_filterMap]
  constructor
  · rintro ⟨j, _, h⟩
    cases hj : t[j] with
    | none => rw [hj] at h; cases h
    | some q => rw [hj] at h; dsimp only at h; split at h
                · cases h; exact ⟨hj, by assumption⟩
                · cases h
  · rintro ⟨h1, h2⟩; exact ⟨i, List.mem_finRange i, by rw [h1]; simp [h2]⟩

/-- They stand in ascending slot order. -/
theorem slotsWhere_pairwise (t : Table) (test : Record → Bool) : (slotsWhere t test).Pairwise (fun p q => p.1 < q.1) := by
  unfold slotsWhere
  rw [List.pairwise_filterMap]
  refine (List.pairwise_lt_finRange 48).imp ?_
  intro a b hab x hx y hy
  have hh : ∀ (i : SlotIx) (z : SlotIx × Record), (match t[i] with | some r => if test r then some (i, r) else none | none => none) =
    some z → z.1 = i := by
    intro i z hz
    cases hi : t[i] with
    | none => rw [hi] at hz; cases hz
    | some q => rw [hi] at hz; dsimp only at hz; split at hz <;> cases hz; rfl
  rw [hh a x hx, hh b y hy]; exact hab

/-- A slot of a rewritten table. -/
theorem rewrite_get (t : Table) (f : Record → Option Record) (i : SlotIx) : (rewrite t f)[i] = t[i].bind f := by
  unfold rewrite; simp

/-- The subjects of some records. -/
theorem mem_subjectsOf {l : List (SlotIx × Record)} {sub : Subject} : sub ∈ subjectsOf l ↔ ∃ p ∈ l, p.2.subject = sub := by
  unfold subjectsOf; simp [List.mem_filter, List.mem_finRange]

/-- A later notice of a kind with a slot replaces the slot (R172). -/
theorem take_take {n : NoticeState} {k : SlotIx → Notice} (hk : k = .expired ∨ k = .overridden ∨ k = .committed) (i j : SlotIx) :
    (n.take (k i)).take (k j) = n.take (k j) := by
  rcases hk with h | h | h <;> subst h <;> (unfold NoticeState.take Notice.bit; dsimp only; simp only
    [BitVec.or_assoc, BitVec.or_self, BitVec.and_assoc, BitVec.and_self])

/-- Notices of one kind posted in a row: an owner of none of them is left alone, an owner of some holds the last one's. -/
theorem postList_take (k : SlotIx → Notice) (hk : k = .expired ∨ k = .overridden ∨ k = .committed) (l : List (SlotIx × Requester))
    (s : State) (q : Requester) :
    (∀ p ∈ l, p.2 ≠ q) ∧ (postList s (l.map fun p => (p.2, k p.1))).link.notices[q] = s.link.notices[q] ∨
    (∃ as p bs, l = as ++ p :: bs ∧ p.2 = q ∧ (∀ x ∈ bs, x.2 ≠ q) ∧ (postList s (l.map fun p => (p.2, k p.1))).link.notices[q] =
      s.link.notices[q].take (k p.1)) := by
  induction l generalizing s with
  | nil => left; exact ⟨by simp, rfl⟩
  | cons a l ih =>
    have hstep : postList s ((a :: l).map fun p => (p.2, k p.1)) = postList (post s a.2 (k a.1)) (l.map fun p => (p.2, k p.1)) := rfl
    rw [hstep]
    rcases ih (post s a.2 (k a.1)) with ⟨h1, h2⟩ | ⟨as, p, bs, h1, h2, h3, h4⟩
    · by_cases ha : a.2 = q
      · right; refine ⟨[], a, l, rfl, ha, h1, ?_⟩
        rw [h2, post_notices, ← ha]; simp
      · left; refine ⟨?_, ?_⟩
        · intro p hp; rcases List.mem_cons.1 hp with h | h; rw [h]; exact ha; exact h1 p h
        · rw [h2, post_notices]
          simp [Fin.val_ne_of_ne ha]
    · right; refine ⟨a :: as, p, bs, by rw [h1]; rfl, h2, h3, ?_⟩
      rw [h4, post_notices]
      by_cases ha : a.2 = q
      · rw [ha]; simp [take_take hk]
      · simp [Fin.val_ne_of_ne ha]

/-- Notices posted to the owners of the records that pass a test, in the words of the statements. -/
theorem postList_postedToOwners (k : SlotIx → Notice) (hk : k = .expired ∨ k = .overridden ∨ k = .committed) (s : State) (t : Table)
    (test : Record → Bool) :
    PostedToOwners s.link.notices (postList s ((slotsWhere t test).map fun p => (p.2.owner, k p.1))).link.notices t test k := by
  have hl : (slotsWhere t test).map (fun p => (p.2.owner, k p.1)) = ((slotsWhere t test).map fun p => (p.1, p.2.owner)).map fun p =>
    (p.2, k p.1) := by
    rw [List.map_map]; rfl
  rw [hl]
  intro q
  rcases postList_take k hk ((slotsWhere t test).map fun p => (p.1, p.2.owner)) s q with ⟨h1, h2⟩ | ⟨as, p, bs, h1, h2, h3, h4⟩
  · refine ⟨fun _ => h2, ?_⟩
    intro i r hi hr hq _
    exact absurd hq (h1 (i, r.owner) (List.mem_map.2 ⟨(i, r), mem_slotsWhere.2 ⟨hi, hr⟩, rfl⟩))
  · have hmem : p ∈ (slotsWhere t test).map fun p => (p.1, p.2.owner) := by rw [h1]; simp
    obtain ⟨⟨i, r⟩, hir, rfl⟩ := List.mem_map.1 hmem
    obtain ⟨ha, hb⟩ := mem_slotsWhere.1 hir
    refine ⟨fun h => absurd h2 (h i r ha hb), ?_⟩
    intro j x hj hx hxq hmax
    rw [h4]
    have : i = j := by
      have hle := hmax i r ha hb h2
      have hpw : ((slotsWhere t test).map fun p => (p.1, p.2.owner)).Pairwise (fun p q => p.1 < q.1) := by
        rw [List.pairwise_map]; exact slotsWhere_pairwise t test
      have hjm : (j, x.owner) ∈ (slotsWhere t test).map fun p => (p.1, p.2.owner) := List.mem_map.2 ⟨(j, x), mem_slotsWhere.2 ⟨hj, hx⟩, rfl⟩
      rw [h1] at hjm hpw
      rcases List.mem_append.1 hjm with h | h
      · have := (List.pairwise_append.1 hpw).2.2 _ h (i, r.owner) (by simp)
        exact absurd this (not_lt.2 hle)
      · rcases List.mem_cons.1 h with h | h
        · exact (congrArg Prod.fst h).symm
        · exact absurd hxq (h3 _ h)
    rw [this]

/-- An entry depends on the bounds of the records of its subject that apply (R89). -/
theorem computeEntry_congr {t t' : Table} {p : Posture} {sub : Subject}
    (h : ∀ i : SlotIx, (t'[i].bind fun r => if r.subject = sub ∧ applies p r then some r.bound else none) = t[i].bind fun r => if
      r.subject = sub ∧ applies p r then some r.bound else none) :
    computeEntry t' p sub = computeEntry t p sub := by
  have : applying t' p sub = applying t p sub := by
    unfold applying
    congr 1; funext i
    have := h i
    cases h1 : t'[i] <;> cases h2 : t[i] <;> rw [h1, h2] at this <;> simp only [Option.bind] at this ⊢
    · split at this
      · cases this
      · rename_i h; rw [if_neg h]
    · split at this
      · cases this
      · rename_i h; rw [if_neg h]
    · split at this <;> split at this
      · rename_i a b; rw [if_pos a, if_pos b]; rw [Option.some.inj this]
      · cases this
      · cases this
      · rename_i a b; rw [if_neg a, if_neg b]
  unfold computeEntry; rw [this]

/-- A recompute of an entry that holds changes nothing. -/
theorem recompute_same {s : State} {sub : Subject} (h : s.resolver[sub] = computeEntry s.table s.posture.current sub) : recompute s sub
    = s := by
  have h1 : s.withResolver (s.resolver.set sub (computeEntry s.table s.posture.current sub)) = s := by
    rw [← h]
    have : s.resolver.set sub s.resolver[sub] = s.resolver := by simp
    rw [this]; rfl
  unfold recompute; dsimp only; rw [h1]; rw [if_pos rfl]

/-- Recomputes of entries that hold change nothing. -/
theorem recomputeList_same {s : State} (l : List Subject) (h : ∀ sub : Subject, s.resolver[sub] = computeEntry s.table s.posture.current
    sub) : recomputeList s l = s := by
  unfold recomputeList
  induction l with
  | nil => rfl
  | cons a l ih => rw [List.foldl_cons, recompute_same (h a)]; exact ih

end Sys2Proof.Machine
end

