-- ==== Sys2Proof/Laws/Trip.lean ====
section
/-! SUPPORT. What judging the trip sources writes: the sets, the state, the capture, the outputs, and what it leaves; and what an evaluation
writes in the Governor. -/

namespace Sys2Proof.Machine

/-- The judged set reads the enable flags, the levels and the two inputs of the Trip Unit, and the latest codes (R150). -/
theorem judgedSet_congr {t t' : TripUnit} {latest : Vector (Option (BitVec 10)) 9} (h1 : t.enable = t'.enable) (h2 : t.levels = t'.levels)
    (h3 : t.overtemp = t'.overtemp) (h4 : t.saturated = t'.saturated) : judgedSet t latest = judgedSet t' latest := by
  unfold judgedSet sourceCondition
  rw [h1, h2, h3, h4]

/-- The move of the trip state touches the state and the stop timer alone (R153, R155). -/
theorem escalate_eq (now : Count) (grave : Bool) (t : TripUnit) :
    escalate now grave t = { t with state := (escalate now grave t).state, stopTimer := (escalate now grave t).stopTimer } := by
  unfold escalate enterStopping
  split <;> (try split) <;> (try split) <;> rfl

/-- Latching sources writes the latched set and, from an empty one, the capture; the rest is the move of the state (R152). -/
theorem latch_eq (now : Count) (new : SourceSet) (t : TripUnit) :
    latch now new t = { t with
      latched := t.latched ||| new
      capture := if t.latched = 0 then (firstSource new).map fun src => (now, src) else t.capture
      state := (latch now new t).state
      stopTimer := (latch now new t).stopTimer } := escalate_eq _ _ _

/-- The active set after some sources are judged afresh. -/
def judgedActive (s : State) (which : SourceSet) : SourceSet :=
  (s.trip.active &&& ~~~which) ||| (judgedSet s.trip s.measure.latest &&& which)

/-- The three ways in which judging sources ends (R151 to R154). -/
theorem judgeSources_cases (s : State) (which : SourceSet) :
    let active := judgedActive s which
    let new := active &&& ~~~s.trip.active &&& ~~~s.trip.latched
    (new ≠ 0 → judgeSources s which
      = postAll (handOver (s.withTrip (latch s.timebase.count new { s.trip with active := active }))) .trip)
    ∧ (new = 0 → active ≠ s.trip.active → judgeSources s which = handOver (s.withTrip { s.trip with active := active }))
    ∧ (new = 0 → active = s.trip.active → judgeSources s which = s) := by
  refine ⟨?_, ?_, ?_⟩
  · intro h; unfold judgeSources; exact if_pos h
  · intro h h'; unfold judgeSources; exact (if_neg (not_not.2 h)).trans (if_pos h')
  · intro h h'; unfold judgeSources; exact (if_neg (not_not.2 h)).trans (if_neg (not_not.2 h'))

/-- The sources judged are active exactly when the judged set holds them; the others stay as they were. -/
theorem judgeSources_active (s : State) (which : SourceSet) : (judgeSources s which).trip.active = judgedActive s which := by
  obtain ⟨h1, h2, h3⟩ := judgeSources_cases s which
  by_cases hn : judgedActive s which &&& ~~~s.trip.active &&& ~~~s.trip.latched = 0
  · by_cases ha : judgedActive s which = s.trip.active
    · rw [h3 hn ha, ha]
    · rw [h2 hn ha]; rfl
  · rw [h1 hn]
    show (latch _ _ _).active = _
    rw [latch_eq]

/-- The sources that rose join the latched set (R152). -/
theorem judgeSources_latched (s : State) (which : SourceSet) :
    (judgeSources s which).trip.latched = s.trip.latched ||| (judgedActive s which &&& ~~~s.trip.active) := by
  have same : ∀ a b : SourceSet, b ||| (a &&& ~~~b) = b ||| a := by
    intro a b
    apply BitVec.eq_of_getLsbD_eq
    intro i hi
    simp only [BitVec.getLsbD_or, BitVec.getLsbD_and, BitVec.getLsbD_not, hi, decide_true, Bool.true_and]
    cases b.getLsbD i <;> cases a.getLsbD i <;> rfl
  rw [← same (judgedActive s which &&& ~~~s.trip.active) s.trip.latched]
  obtain ⟨h1, h2, h3⟩ := judgeSources_cases s which
  by_cases hn : judgedActive s which &&& ~~~s.trip.active &&& ~~~s.trip.latched = 0
  · rw [hn]
    by_cases ha : judgedActive s which = s.trip.active
    · rw [h3 hn ha]; simp
    · rw [h2 hn ha]; simp
  · rw [h1 hn]
    show (latch _ _ _).latched = _
    rw [latch_eq]

/-- Judging sources writes no setting and no input of the Trip Unit. -/
theorem judgeSources_settings (s : State) (which : SourceSet) :
    let t := (judgeSources s which).trip
    t.overtemp = s.trip.overtemp ∧ t.stopAck = s.trip.stopAck ∧ t.saturated = s.trip.saturated ∧ t.enable = s.trip.enable
    ∧ t.stopClass = s.trip.stopClass ∧ t.levels = s.trip.levels ∧ t.stopTimeout = s.trip.stopTimeout := by
  obtain ⟨h1, h2, h3⟩ := judgeSources_cases s which
  dsimp only
  by_cases hn : judgedActive s which &&& ~~~s.trip.active &&& ~~~s.trip.latched = 0
  · by_cases ha : judgedActive s which = s.trip.active
    · rw [h3 hn ha]; exact ⟨rfl, rfl, rfl, rfl, rfl, rfl, rfl⟩
    · rw [h2 hn ha]; exact ⟨rfl, rfl, rfl, rfl, rfl, rfl, rfl⟩
  · rw [h1 hn]
    simp only [postAll_trip, handOver_trip, State.withTrip_trip]
    rw [latch_eq]
    exact ⟨rfl, rfl, rfl, rfl, rfl, rfl, rfl⟩

/-- An output judged is FORCED exactly when its force condition holds (R141). -/
theorem judgeOutput_forced (active latched : SourceSet) (o : Output) :
    (judgeOutput active latched o).state = .forced ↔ forceCondition active latched o = true := by
  unfold judgeOutput
  split
  · rename_i h; simp [h]
  · rename_i h
    cases hs : o.state <;> simp_all

/-- Judging an output writes its state alone. -/
theorem judgeOutput_eq (active latched : SourceSet) (o : Output) :
    judgeOutput active latched o = { o with state := (judgeOutput active latched o).state } := by
  unfold judgeOutput
  split
  · rfl
  · split <;> rfl

/-- What an evaluation writes in the subjects of the Governor: the step and the run of its subject (R122, R123, R126). -/
theorem evaluate_subjects (s : State) (m : Measured) (v : Nat) :
    (evaluate s m v).governor.subjects = s.governor.subjects.set m
      (judgeRun s.timebase.count s.resolver[m.castSucc].limit v
        (stepPressure s.timebase.count s.resolver[m.castSucc].limit v s.governor.subjects[m])) := by
  unfold evaluate
  dsimp only
  split <;> split <;> simp

end Sys2Proof.Machine
end

