-- ==== Sys2Proof/WellFormed.lean ====
section
/-! DEFINITION. Which terms of `Instr` name a row of the table: a frame's header agrees with its row (R166, R168, R170, R171). Every other
operand is bounded by its type. A frame with no whole byte is well formed in every row: it "has no effect" (R166). -/

namespace Sys2Proof

/-- Whether the header of the frame, when whole, has a type that satisfies the test. -/
def headerSatisfies (test : FrameType → Bool) (sdi : List Bool) : Bool :=
  match wholeBytes sdi with
  | [] => true
  | header :: _ => test (frameType header)

/-- COMMAND_FRAME and FRAME_DURING_EXECUTION name frames that are not FETCH frames; FETCH_FRAME names one that is. -/
def wellFormed : Instr → Bool
  | .commandFrame sdi => headerSatisfies (· != .fetch) sdi
  | .frameDuringExecution sdi => headerSatisfies (· != .fetch) sdi
  | .fetchFrame sdi => headerSatisfies (· == .fetch) sdi
  | .fullReset _ | .place | .change | .renew | .retire | .sweep | .lookup | .readSlot | .list | .readResolved | .readPosture
  | .readMeasure | .readGovernor | .readTrip | .readNotices | .setNoticeEnable | .clearNotices | .readProfile | .readSettings
  | .resume | .softReset | .setScan | .setSense | .setCommit | .setGovern | .setRoute | .setOutput | .setTrip | .setPosture
  | .commitTimerExpiry _ | .leaseTick | .postureInputEdge _ _ | .motionEdge _ | .adpPresEdge _ | .settleTimerExpiry
  | .scanTimerExpiry | .startStepEnd | .gapEnd | .conversionCompletion _ | .spotCompletion _ | .overtempEdge _ | .stopAckEdge _
  | .stopTimerExpiry | .periodEnd _ => true

end Sys2Proof
end

