-- ==== Sys2Proof/Tests/Slice0.lean ====
section
/-! SUPPORT. Own tests: the checks of WellFormed, the frames and worked examples of the manual, one small step per row, and for every
statement with hypotheses a state and operands that meet them, each clause at a boundary of its range. -/

namespace Sys2Proof.Tests

set_option Elab.async false

open Sys2Proof Sys2Proof.Machine

/-! ### Small states -/

/-- A LIVE record of requester 2 on PKG_LONG under tag 7 (2.3, worked example). -/
def sample : Record where
  state := .live
  owner := 2
  subject := 1
  tag := 7
  cls := .ordinary
  bound := 200
  mask := 0b001
  pendingBound := none
  pendingMask := none
  lease := some 3600
  generation := 0

/-- A table that holds these records and nothing else. -/
def tableOf (l : List (SlotIx × Record)) : Table := l.foldl (fun t p => t.set p.1 (some p.2)) (Vector.replicate 48 none)

/-- The state after reset with another table and its entries. -/
def stateOf (l : List (SlotIx × Record)) : State :=
  { State.reset with table := tableOf l, resolver := Vector.ofFn (computeEntry (tableOf l) .bag) }

/-- The execution of a command that its requester has just sent. -/
def sent (r : Requester) (c : Command) : Execution := ⟨r, c, false, 0⟩

/-- A state with a command in execution. -/
def taking (r : Requester) (c : Command) (s : State) : State := { s with link := { s.link with execution := some (sent r c) } }

/-- The next state of a row. -/
def after (i : Instr) (s : State) : State :=
  match exec i s with
  | .next t => t
  | .fault _ => s
  | .refused _ => s

/-- The completion of a command sent by a requester. -/
def completes (r : Requester) (c : Command) (s : State) : State := after (completionRow c) (taking r c s)

/-- The status and the payload in the slot. -/
def reply (s : State) : Option (Status × List Byte) := s.link.slot.map fun h => (h.response.status, h.response.payload)

/-- What the statements about a command in execution assume of the state. -/
theorem taking_execution (r : Requester) (c : Command) (s : State) : (taking r c s).link.execution = some (sent r c) := rfl

/-- A key with one record, from a check over the slots. -/
theorem holdsKey_of {t : Table} {f : KeyFields} {i : SlotIx} {r : Record} (hi : t[i] = some r) (hr : Names f r)
    (h : ∀ j : SlotIx, j ≠ i → t[j] = none) : HoldsKey t f i r :=
  ⟨hi, hr, fun j q hq _ => by
    by_contra hn
    rw [h j hn] at hq
    cases hq⟩

/-- A table with one record holds it in its slot and nothing elsewhere. -/
theorem tableOf_one (i j : SlotIx) (r : Record) : (tableOf [(i, r)])[j] = if i = j then some r else none := by
  unfold tableOf
  simp only [List.foldl, Fin.getElem_fin, Vector.getElem_set, Vector.getElem_replicate, Fin.ext_iff]

/-- The entries of a small state are the ones its records give. -/
theorem resolvedOk_stateOf (l : List (SlotIx × Record)) : ResolvedOk (stateOf l) := by
  intro sub
  show (Vector.ofFn (computeEntry (tableOf l) .bag))[sub] = computeEntry (tableOf l) .bag sub
  simp

/-! ### WellFormed -/

theorem test_wellFormed_commandFrame_refuses_fetch : wellFormed (.commandFrame (bitsOfBytes [0x52, 0x00])) = false := by decide
theorem test_wellFormed_frameDuringExecution_refuses_fetch : wellFormed (.frameDuringExecution (bitsOfBytes [0x57])) = false := by decide
theorem test_wellFormed_fetchFrame_refuses_command : wellFormed (.fetchFrame (bitsOfBytes [0xA0])) = false := by decide
theorem test_wellFormed_accepts : wellFormed (.commandFrame (bitsOfBytes [0xA7])) = true
    ∧ wellFormed (.frameDuringExecution (bitsOfBytes [0x00])) = true ∧ wellFormed (.fetchFrame (bitsOfBytes [0x50])) = true
    ∧ wellFormed (.fetchFrame [true]) = true ∧ wellFormed .leaseTick = true := by decide

/-! ### Frames of the manual (10.6, worked example) -/

/-- The CHANGE frame of the worked example. -/
def changeFrame : List Byte := [0xA2, 0x02, 0x08, 0x02, 0x01, 0x07, 0x00, 0xF0, 0x03, 0x01, 0x00, 0x56]

/-- The command that frame carries. -/
def changeCommand : Command := .change ⟨⟨2, 1, 7⟩, 240, 3, ⟨1, 0⟩⟩

theorem test_changeFrame_read : judgeFrame 0xA2 changeFrame.tail = .take 2 changeCommand := by decide +kernel
theorem test_changeFrame_built : commandFrameBytes 2 changeCommand = changeFrame := by decide +kernel
theorem test_change_response : responseBytes ⟨.staged, false, true, 2, 0, [0x0A, 0x01]⟩ = [0x01, 0x02, 0x02, 0x00, 0x02, 0x0A, 0x01, 0xEE] := by
  decide +kernel
theorem test_empty_answer : responseBytes (bareAnswer .empty 5) = [0x03, 0x00, 0x05, 0x00, 0x00, 0xF8] := by decide +kernel
theorem test_frame_refused_in_order :
    [judgeFrame 0xA2 [0x02, 0x08], judgeFrame 0xB0 [0x11, 0x00, 0x3F], judgeFrame 0xA0 [0x11, 0x00, 0x00], judgeFrame 0xA0 [0x13, 0x00, 0x4D],
      judgeFrame 0xA0 [0x11, 0x01, 0x00, 0x4E], judgeFrame 0xA3 [0x21, 0x00, 0x3C], judgeFrame 0xA0 [0x11, 0x00, 0x4F]]
    = [.refuse 2 .framing, .refuse 0 .framing, .refuse 0 .check, .refuse 0 .unknown, .refuse 0 .malformed, .refuse 3 .denied,
       .take 0 .readProfile] := by decide +kernel
theorem test_frame_is_read_msb_first : wholeBytes (bitsOfBytes [0xA2, 0x02] ++ [true, true]) = [0xA2, 0x02]
    ∧ bitsOfByte 0xA2 = [true, false, true, false, false, false, true, false] := by decide
theorem test_commandFrame_taken_from_bits :
    (after (.commandFrame (bitsOfBytes changeFrame)) State.reset).link.execution = some ⟨2, changeCommand, false, 0⟩ := by decide +kernel
theorem test_frameDuringExecution_sets_dropped :
    ((after (.frameDuringExecution (bitsOfBytes [0xA0])) (taking 2 changeCommand State.reset)).link.execution.map (·.dropped)) = some true := by
  decide +kernel
theorem test_fetchFrame_not_ready :
    (after (.fetchFrame (bitsOfBytes [0x52, 0, 0])) (taking 2 changeCommand State.reset)).link.sdo
      = bitsOfBytes [0, 0x02, 0] := by decide +kernel

/-! ### The worked examples of chapters 2, 3, 5, 6, 7, 9 and 10 -/

/-- The mixed change of 2.3: steps 1 and 2, the variations on step 2, and step 4. -/
theorem test_mixed_change :
    let r1 : Record := { sample with mask := 0b011, pendingBound := some 240, generation := 1 }
    let r3 : Record := { sample with bound := 180, mask := 0b010, generation := 3 }
    changed 240 0b011 sample = r1
    ∧ changed 180 0b010 r1 = { r1 with bound := 180, pendingBound := none, pendingMask := some 0b010, generation := 2 }
    ∧ changed 240 0b011 r1 = r1
    ∧ changed 180 0b001 r1 = { r1 with bound := 180, pendingBound := none, pendingMask := some 0b001, generation := 2 }
    ∧ committed 1 { sample with bound := 180, mask := 0b011, pendingMask := some 0b010, generation := 2 } = some r3
    ∧ changed 180 0b010 r3 = r3 := by decide +kernel

theorem test_place_takes_lowest_free :
    let s := completes 2 (.place ⟨1, 7, 200, 1, 0, 1, 3600⟩) State.reset
    reply s = some (.ok, [10]) ∧ s.table[10] = some sample := by decide +kernel
theorem test_change_overridden_by_platform :
    let s := completes 0 (.change ⟨⟨2, 1, 7⟩, 180, 1, ⟨0, 0⟩⟩) (stateOf [(12, sample)])
    reply s = some (.ok, [12, 1]) ∧ s.link.notices[2].pending = 0b000010 ∧ s.link.notices[2].lastOverridden = some 12 := by decide +kernel
theorem test_change_stale : reply (completes 2 (.change ⟨⟨2, 1, 7⟩, 180, 1, ⟨1, 4⟩⟩) (stateOf [(12, sample)])) = some (.stale, [12, 0]) := by
  decide +kernel
theorem test_renew : (completes 2 (.renew ⟨⟨2, 1, 7⟩, 60, ⟨0, 0⟩⟩) (stateOf [(12, sample)])).table[12]
    = some { sample with lease := some 60, generation := 1 } := by decide +kernel
theorem test_retire : reply (completes 2 (.retire ⟨⟨2, 1, 7⟩, ⟨0, 0⟩⟩) (stateOf [(12, sample)])) = some (.staged, [12, 1])
    ∧ reply (completes 4 (.retire ⟨⟨2, 1, 7⟩, ⟨1, 9⟩⟩) (stateOf [(12, sample)])) = some (.denied, []) := by decide +kernel
theorem test_sweep : reply (completes 2 (.sweep 2 0xFF) (stateOf [(12, sample)])) = some (.staged, [1])
    ∧ reply (completes 2 (.sweep 2 0) (stateOf [(12, sample)])) = some (.ok, [0]) := by decide +kernel
theorem test_lookup : reply (completes 5 (.lookup ⟨2, 1, 7⟩) (stateOf [(12, sample)]))
    = some (.ok, [12, 1, 2, 1, 7, 0b01000, 0, 200, 0, 0, 1, 0x0E, 0x10, 0]) := by decide +kernel
theorem test_readSlot_free : reply (completes 5 (.readSlot 47) (stateOf [(12, sample)])) = some (.ok, 47 :: List.replicate 13 0) := by
  decide +kernel
theorem test_list : (reply (completes 5 (.list 7) State.reset)).map (fun p => (p.1, p.2.take 3, p.2.length)) = some (.ok, [3, 0, 7], 44) := by
  decide +kernel

/-- Chapter 5: in LAP, PKG_SHORT is 240 in slots 1 and 11, the lower wins; an agent's 160 loses to the profile's 144. -/
theorem test_entries_in_lap :
    let t : Table := ((Default.table 1).set 10 (some { sample with bound := 160, mask := 0b011 })).set 11
      (some { sample with subject := 0, tag := 1, bound := 240, mask := 0b111 })
    computeEntry t .lap 0 = ⟨some 240, some 1, 2⟩ ∧ computeEntry t .lap 1 = ⟨some 144, some 3, 2⟩ ∧ computeEntry t .desk 1 = ⟨some 160, some 10, 2⟩ := by
  decide +kernel

/-- Chapter 6: the DISCHARGE filter at 64000 takes codes 298 and 301 at k = 2. -/
theorem test_spot_check_filter : updatedFilter (some 64000) (sampleOf 298 64) 2 = 86144 ∧ reported 86144 = 336
    ∧ updatedFilter (some 86144) (sampleOf 301 64) 2 = 103136 ∧ reported 103136 = 402 := by decide

/-- Chapter 7: SKIN_BASE at 333 over 332 steps when no time of last change stands, and not before 200 ms have elapsed. -/
theorem test_pressure_steps :
    let g := stepPressure 10000 (some 332) 333 Default.governedTemperature
    g.pressure = 1 ∧ (stepPressure 10199 (some 332) 334 g).pressure = 1 ∧ (stepPressure 10200 (some 332) 334 g).pressure = 2
    ∧ stepPressure 10300 (some 332) 330 g = g := by decide +kernel

/-- Chapter 8: level 7 of 1024 us is asserted for 448 us, CHG_SET at level 15 never, level 13 of 48 us for 39 us. -/
theorem test_asserted_times : assertedMicros 0 { Default.outputs[0] with applied := 7 } = 448
    ∧ assertedMicros 2 { Default.outputs[2] with applied := 15 } = 0 ∧ assertedMicros 3 { Default.outputs[3] with applied := 13 } = 39 := by
  decide +kernel

/-- A part with OVERTEMP latched and active in STOPPING (chapter 9). -/
def stopping : State := after (.overtempEdge true) { State.reset with timebase := ⟨43100, 0⟩ }

theorem test_overtemp_trips : stopping.trip.state = .stopping ∧ stopping.trip.stopTimer = some 43150
    ∧ stopping.trip.capture = some (43100, 9) ∧ (stopping.outputs.toList.all fun o => o.state == .forced) = true
    ∧ stopping.link.notices[7].pending = 0b010000 := by decide +kernel
theorem test_stopAck_stops : (after (.stopAckEdge true) stopping).trip.state = .stopped
    ∧ reply (completes 0 .resume stopping) = some (.tripBusy, [])
    ∧ reply (completes 0 .resume (after (.stopAckEdge true) stopping)) = some (.active, []) := by decide +kernel
theorem test_stop_timer : (after .stopTimerExpiry { stopping with timebase := ⟨43150, 0⟩ }).trip.state = .off
    ∧ (after .stopTimerExpiry stopping).trip.state = .stopping := by decide +kernel
theorem test_resume : (completes 0 .resume (after (.overtempEdge false) (after (.stopAckEdge true) stopping))).trip.state = .armed := by
  decide +kernel
theorem test_setTrip_judges : (completes 0 (.setTrip (BitVec.ofNat 128 (2 ^ 96))) stopping).trip.active = 0
    ∧ reply (completes 0 (.setTrip 0) stopping) = some (.range, []) := by decide +kernel

/-- Chapter 10: reporting and clearing. -/
theorem test_reporting_and_clearing :
    let s0 := post { State.reset with link := { State.reset.link with
      notices := State.reset.link.notices.set 3 { Default.notices with enable := 0b000011 } } } 3 (.overridden 12)
    let s1 := post (completes 3 .readNotices s0) 3 (.expired 14)
    let s2 := completes 3 (.clearNotices 0b11) s1
    let s3 := completes 3 (.clearNotices 0b01) s2
    s1.link.notices[3].reported = 0b000010 ∧ s2.link.notices[3].pending = 0b000001 ∧ alert s2.link = true
    ∧ s3.link.notices[3].pending = 0 ∧ alert s3.link = false ∧ s3.link.notices[3].lastOverridden = some 12 := by decide +kernel

/-! ### One small step of the other rows -/

theorem test_fullReset_ends_in_bag : (after (.fullReset ⟨false, true, true, true, false, false, true, false, false, false⟩) stopping).posture.settle
    = some ⟨.desk, .loose, 3000, some 3000⟩ := by decide +kernel
theorem test_softReset : (completes 0 .softReset (stateOf [(12, sample)])).table[12] = none := by decide +kernel
theorem test_reads : reply (completes 1 .readProfile State.reset) = some (.ok, [0x06, 0x20, 1, 0])
    ∧ reply (completes 1 (.readResolved 9) State.reset) = some (.ok, [9, 3, 0, 2, 9, 1, 2])
    ∧ reply (completes 1 .readGovernor State.reset) = some (.ok, List.replicate 15 0)
    ∧ reply (completes 1 (.readSettings 1 0) State.reset) = some (.ok, [0, 250, 0x0B, 0xB8])
    ∧ (reply (completes 1 .readPosture State.reset)).map (fun p => p.2.length) = some 34
    ∧ (reply (completes 1 .readMeasure State.reset)).map (fun p => p.2.length) = some 40
    ∧ (reply (completes 1 .readTrip State.reset)).map (fun p => p.2.length) = some 12 := by decide +kernel
theorem test_settings : (completes 0 (.setCommit 1 3) State.reset).commitTimers[1].staged = some 3
    ∧ (completes 0 (.setScan 8) State.reset).measure.scan.staged = some .us4000
    ∧ (completes 0 (.setSense 3 32 4) State.reset).measure.gains[3] = 32
    ∧ (completes 0 (.setPosture 1 500 7) State.reset).posture.strictTime = 500
    ∧ (completes 6 (.setNoticeEnable 0x3F) State.reset).link.notices[6].enable = 0b111111 := by decide +kernel
theorem test_governor_settings : (completes 0 (.setGovern ⟨8, 1, 2, 3, 4⟩) State.reset).governor.subjects[8].fallHold = 3
    ∧ (completes 0 (.setRoute 0 3 15) State.reset).governor.routes[0][3] = some 15
    ∧ (completes 0 (.setOutput ⟨3, 4, 0, 0, 1⟩) State.reset).outputs[3].staged = some 4 := by decide +kernel
theorem test_commit_frees_retiring :
    (after (.commitTimerExpiry 1) { stateOf [(12, retired sample)] with timebase := ⟨4000, 0⟩ }).table[12] = none := by decide +kernel
theorem test_leaseTick : (after .leaseTick { stateOf [(12, sample)] with timebase := ⟨1000, 0⟩ }).table[12] = some { sample with lease := some 3599 } := by
  decide +kernel

/-- Open on a desk: the settle that an edge begins, and the posture change when it expires (chapter 4). -/
def opened : State := after (.postureInputEdge .lid true) State.reset

theorem test_settle : opened.posture.settle = some ⟨.desk, .loose, 3000, some 3000⟩
    ∧ (after (.motionEdge true) opened).posture.settle = some ⟨.desk, .loose, 3000, none⟩
    ∧ (after .settleTimerExpiry { opened with timebase := ⟨3000, 0⟩ }).posture.current = .desk
    ∧ (after (.postureInputEdge .lid false) opened).posture.settle = none := by decide +kernel

/-- A scan that has begun, and a spot check (chapter 6). -/
def scanning : State := after .scanTimerExpiry { State.reset with timebase := ⟨1, 0⟩ }

/-- A state with a sequencer state, at one moment. -/
def sequencing (q : Sequencer) : State := { State.reset with measure := { State.reset.measure with sequencer := q } }

theorem test_scan : scanning.measure.sequencer = .starting 2 ∧ scanning.measure.scan.next = ⟨2, 0⟩
    ∧ (after .startStepEnd (sequencing (.starting 0))).measure.sequencer = .converting 0 ⟨0, 10⟩
    ∧ (after .gapEnd (sequencing (.gap 4 0))).measure.sequencer = .converting 4 ⟨0, 10⟩ := by decide +kernel
theorem test_adapter_edge : (after (.adpPresEdge false) { sequencing (.converting 3 ⟨0, 4⟩) with
    posture := { State.reset.posture with levels := #v[false, false, false, false, true] } }).measure.sequencer
      = .spot ⟨0, 10⟩ (some (.converting 3)) := by decide +kernel
theorem test_conversion : (after (.conversionCompletion 300) (sequencing (.converting 8 ⟨0, 0⟩))).measure.latest[8] = some 300
    ∧ (after (.spotCompletion 298) (sequencing (.spot ⟨0, 0⟩ (some (.converting 3))))).measure.filters[4] = some 152576 := by decide +kernel
theorem test_periodEnd : (after (.periodEnd 3) { State.reset with timebase := ⟨0, 48⟩ }).outputs[3].nextEnd = ⟨0, 96⟩ := by decide +kernel
theorem test_tick : (match step State.reset with | .next t => decide (t.timebase = ⟨0, 1⟩ ∧ t.pending = []) | _ => false) = true := by
  decide +kernel

/-! ### Witnesses: a state and operands for the hypotheses of every statement that has any -/

/-- The one record of a small table is held by its key. -/
theorem holdsKey_one {i : SlotIx} {r : Record} {f : KeyFields} (h : Names f r) : HoldsKey (tableOf [(i, r)]) f i r :=
  holdsKey_of (by rw [tableOf_one, if_pos rfl]) h fun j hj => by rw [tableOf_one, if_neg (Ne.symm hj)]

/-- A key with other bytes names no record of a small table. -/
theorem noRecord_one {i : SlotIx} {r : Record} {f : KeyFields} (h : ¬ Names f r) : NoRecord (tableOf [(i, r)]) f := by
  intro j q hq
  rw [tableOf_one] at hq
  split at hq
  · cases hq; exact h
  · cases hq

/-- The key of the sample. -/
def sampleKey : KeyFields := ⟨2, 1, 7⟩

theorem names_sample : Names sampleKey sample := ⟨rfl, rfl, rfl⟩

/-- The state with the sample alone, in slot 12, and a command in execution. -/
def withSample (r : Requester) (c : Command) : State := taking r c (stateOf [(12, sample)])

theorem wit_mayAlter (r : Requester) (c : Command) (h : r = 2 ∨ r = 0) (x : ExpectFields) (hx : Expected x sample) :
    MayAlterSlot (withSample r c) r sampleKey x 12 sample := ⟨holdsKey_one names_sample, h, rfl, hx⟩

theorem test_wit_StepTakesFront : ({ State.reset with pending := [.leaseTick, .gapEnd] } : State).pending = .leaseTick :: [.gapEnd] := rfl
theorem test_wit_TickPassesOneMicrosecond : State.reset.pending = [] ∧ ({ State.reset with timebase := ⟨0, 998⟩ } : State).timebase.micro.val < 999
    ∧ ({ State.reset with timebase := ⟨0xFFFFFFFF, 999⟩ } : State).timebase.micro.val = 999 := by decide +kernel
theorem test_wit_EventsNotAtHandChangeNothing :
    let s := opened
    (∀ sub : Subject, s.commitTimers[sub].nextExpiry ≠ s.timebase.count) ∧ s.leaseClock ≠ s.timebase.count
    ∧ s.posture.settle = some ⟨.desk, .loose, 3000, some 3000⟩ ∧ some (3000 : Count) ≠ some s.timebase.count
    ∧ s.measure.scan.next ≠ s.timebase ∧ (sequencing (.starting 1)).measure.sequencer ≠ .starting 0
    ∧ (∀ c : Channel, (sequencing (.gap 1 1)).measure.sequencer ≠ .gap c 0)
    ∧ (∀ c : Channel, (sequencing (.converting 0 ⟨0, 1⟩)).measure.sequencer ≠ .converting c ⟨0, 0⟩)
    ∧ s.trip.stopTimer ≠ some s.timebase.count ∧ (∀ ix : OutputIx, s.outputs[ix].nextEnd ≠ s.timebase)
    ∧ (∀ e ∈ (taking 2 changeCommand s).link.execution, completionRow e.command ≠ completionRow .resume) := by decide +kernel
theorem test_wit_spot_not_due (resume : Option Resume) : (sequencing (.spot ⟨0, 1⟩ none)).measure.sequencer ≠ .spot ⟨0, 0⟩ resume := by
  rintro ⟨⟩

/-- Two sets of sampled levels: all low, and an open lid with OVERTEMP and STOP_ACK asserted. -/
def loudPins : PinLevels := ⟨true, false, true, false, true, true, true, true, true, true⟩

theorem test_wit_FullReset : rawPosture (Default.posture Default.lowPins).levels = .bag ∧ rawPosture (Default.posture loudPins).levels ≠ .bag
    ∧ Default.lowPins.overtemp = false ∧ loudPins.overtemp = true ∧ loudPins.stopAck = true ∧ Default.lowPins.stopAck = false
    ∧ (9 : SlotIx).val < 10 ∧ 10 ≤ (10 : SlotIx).val := by decide
theorem test_fullReset_table : (after (.fullReset loudPins) stopping).table = Default.table (after (.fullReset loudPins) stopping).profile
    ∧ ((after (.fullReset loudPins) stopping).table[0].map (·.bound)) = some 720
    ∧ (after (.fullReset loudPins) stopping).resolver[9] = ⟨some 3, some 9, 1⟩ := by decide +kernel
theorem test_wit_SoftResetFreesAndTrims :
    let anchored : Record := { sample with owner := 0, cls := .anchored, lease := none, pendingBound := some 300 }
    let s := taking 0 .softReset (stateOf [(12, sample), (47, anchored)])
    s.link.execution = some (sent 0 .softReset) ∧ s.table[0] = none ∧ s.table[12] = some sample ∧ sample.cls = .ordinary
    ∧ s.table[47] = some anchored ∧ anchored.cls = .anchored ∧ (after .softReset s).fanCap = s.fanCap := by decide +kernel

/-- An agent's record that holds the fan at level 1 in every posture. -/
def quiet : Record := { sample with subject := 9, bound := 1, mask := 0b111 }

/-- Pressed by SKIN_BASE at pressure 9, the FAN target is that of the quiet cap. -/
def quietState (r : Record) : State :=
  let s := stateOf [(12, r)]
  let g := { s.governor with subjects := s.governor.subjects.set 6 { Default.governedTemperature with pressure := 9 } }
  { s with governor := { g with targets := Vector.ofFn (targetLevel g s.fanCap) } }

/-- The fan cap changes, and the FAN target with it, at SOFT RESET, at a commit and at a settle expiry. -/
theorem test_wit_fan_cap_changes :
    let soft := taking 0 .softReset (quietState quiet)
    let due := { quietState { quiet with state := .retiring, lease := none } with timebase := ⟨1000, 0⟩ }
    let settled := { opened with timebase := ⟨3000, 0⟩ }
    soft.governor.targets[3] = 1 ∧ (after .softReset soft).fanCap ≠ soft.fanCap ∧ (after .softReset soft).governor.targets[3] = 9
    ∧ due.commitTimers[9].nextExpiry = due.timebase.count ∧ (after (.commitTimerExpiry 9) due).fanCap ≠ due.fanCap
    ∧ (after (.commitTimerExpiry 9) due).governor.targets[3] = 9
    ∧ (after .settleTimerExpiry settled).fanCap = 15 ∧ settled.fanCap = 2 := by decide +kernel
theorem test_wit_CommandFrameTaken : State.reset.link.execution = none ∧ State.reset.link.voidFrame = false
    ∧ wholeBytes (bitsOfBytes changeFrame ++ List.replicate 7 true) = commandFrameBytes 2 changeCommand
    ∧ privileged (codeOf changeCommand) = false
    ∧ wholeBytes (bitsOfBytes (commandFrameBytes 0 .resume)) = commandFrameBytes 0 .resume ∧ privileged (codeOf .resume) = true := by
  decide +kernel
theorem test_wit_CommandFrameRefused :
    let isFetch := fun h : Byte => 0x50 ≤ h.toNat ∧ h.toNat ≤ 0x57
    let isCommand := fun h : Byte => 0xA0 ≤ h.toNat ∧ h.toNat ≤ 0xA7
    let zero := fun bs : List Byte => (bs.map BitVec.toNat).sum % 256 = 0
    (∀ h ∈ ([0x4F, 0x58, 0x9F, 0xA8] : List Byte), ¬ isFetch h ∧ ¬ isCommand h) ∧ ¬ isFetch 0xA0 ∧ isCommand 0xA0 ∧ isCommand 0xA7
    ∧ wholeBytes (bitsOfBytes [0xA0, 0x11, 0x00]) = 0xA0 :: [0x11, 0x00] ∧ ([0x11, 0x00] : List Byte).length < 3
    ∧ wholeBytes (bitsOfBytes [0xA0, 0x11, 0x00, 0x4F, 0]) = 0xA0 :: 0x11 :: 0x00 :: [0x4F, 0] ∧ ([0x4F, 0] : List Byte).length ≠ (0 : Byte).toNat + 1
    ∧ ([0x4F] : List Byte).length = (0 : Byte).toNat + 1 ∧ zero [0xA0, 0x11, 0x00, 0x4F] ∧ ¬ zero [0xA0, 0x11, 0x00, 0x4E]
    ∧ zero [0xA0, 0x13, 0x00, 0x4D] ∧ (∀ c ∈ allCodes, codeByte c ≠ 0x13)
    ∧ zero [0xA0, 0x11, 0x01, 0x00, 0x4E] ∧ codeByte .readProfile = 0x11 ∧ (1 : Byte).toNat ≠ payloadLength .readProfile
    ∧ zero [0xA7, 0x21, 0x00, 0x38] ∧ codeByte .softReset = 0x21 ∧ (0 : Byte).toNat = payloadLength .softReset
    ∧ privileged .softReset = true ∧ (Fin.ofNat 8 (0xA7 : Byte).toNat : Requester) ≠ 0 := by decide +kernel
theorem test_wit_unknown_code (c : Code) : codeByte c ≠ 0x13 := by cases c <;> decide
theorem test_wit_FrameMeetsExecution :
    (after (.fullReset loudPins) State.reset).link.voidFrame = true ∧ State.reset.link.voidFrame = false
    ∧ wholeBytes (List.replicate 7 true) = [] ∧ wholeBytes (bitsOfBytes [0x58]) = 0x58 :: [] ∧ wholeBytes (bitsOfBytes [0xA0]) = 0xA0 :: []
    ∧ (taking 2 changeCommand State.reset).link.execution = some (sent 2 changeCommand) ∧ State.reset.link.execution = none := by decide +kernel
theorem test_frames_without_a_whole_byte : ∀ c ∈ ([.commandFrame [true], .frameDuringExecution [true], .fetchFrame [true]] : List Instr),
    after c (taking 2 changeCommand State.reset) = taking 2 changeCommand State.reset := by decide +kernel
theorem test_commandFrame_while_executing :
    ((after (.commandFrame (bitsOfBytes changeFrame)) (taking 2 changeCommand State.reset)).link.execution.map (·.dropped)) = some true
    ∧ (after (.frameDuringExecution (bitsOfBytes [0x52, 0, 0])) (taking 2 changeCommand State.reset)).link.sdo = bitsOfBytes [0, 0x02, 0] := by
  decide +kernel
theorem test_wit_FetchFrameAnswers :
    let held := { State.reset with link := { State.reset.link with slot := some ⟨⟨.staged, false, true, 2, 0, [0x0A, 0x01]⟩, false⟩ } }
    wholeBytes (bitsOfBytes [0x50] ++ List.replicate 64 false) = 0x50 :: List.replicate 8 0
    ∧ wholeBytes (bitsOfBytes [0x57] ++ List.replicate 63 false) = 0x57 :: List.replicate 7 0
    ∧ (taking 2 changeCommand State.reset).link.execution.isSome = true ∧ State.reset.link.execution = none ∧ State.reset.link.slot = none
    ∧ held.link.execution = none
    ∧ (held.link.slot.map fun h => 8 + 8 * (responseBytes h.response).length) = some (bitsOfBytes [0x50] ++ List.replicate 64 false).length := by
  decide +kernel
theorem test_wit_CommandFrameRoundTrip : privileged (codeOf changeCommand) = false ∧ privileged (codeOf (.setTrip 0)) = true
    ∧ (List.replicate 7 true).length < 8 := by decide
theorem test_wit_AlertFollowsNotices : ∃ t, exec (.fullReset loudPins) State.reset = .next t := ⟨_, rfl⟩
theorem test_wit_NoticeCommands (r : Requester) (k : Byte) (hk : k = 63 ∨ k = 64) :
    (taking r (.setNoticeEnable k) State.reset).link.execution = some (sent r (.setNoticeEnable k))
    ∧ (taking r (.clearNotices k) State.reset).link.execution = some (sent r (.clearNotices k))
    ∧ (taking r .readNotices State.reset).link.execution = some (sent r .readNotices)
    ∧ (k.toNat ≤ 63 ∨ 64 ≤ k.toNat) := ⟨rfl, rfl, rfl, by rcases hk with h | h <;> rw [h] <;> decide⟩
theorem test_wit_BlockReads (c : Command) : (taking 5 c State.reset).link.execution = some (sent 5 c) ∧ (sent 5 c).command = c
    ∧ (8 : Byte).toNat = (8 : Subject).val ∧ (8 : Subject) ≠ 9 ∧ 9 < (10 : Byte).toNat ∧ (10 : Byte) ≠ 0xFF ∧ 9 < (0xFE : Byte).toNat
    ∧ (8 : Byte).toNat = (8 : Measured).val ∧ 9 ≤ (9 : Byte).toNat ∧ (5 : Byte) ≠ 3 ∧ (1 : Byte) ≠ 0 ∧ 6 ≤ (6 : Byte).toNat :=
  ⟨rfl, rfl, by decide⟩

/-- PLACE of an agent's FAN_CAP record with the longest lease, and of an anchored one by the platform, in a table whose slot 0 is taken. -/
theorem test_wit_PlaceCreatesRecord :
    let s := stateOf [(0, sample)]
    (∀ j : SlotIx, ∀ q ∈ s.table[j], ¬ (q.owner = 7 ∧ q.subject = 9 ∧ q.tag = 0) ∧ ¬ (q.owner = 0 ∧ q.subject = 9 ∧ q.tag = 0))
    ∧ owned s.table 7 < 12 ∧ s.table[1] = none ∧ (∀ j : SlotIx, j < 1 → s.table[j] ≠ none)
    ∧ (taking 7 (.place ⟨9, 0, 15, 7, 0, 1, 43200⟩) s).link.execution = some (sent 7 (.place ⟨9, 0, 15, 7, 0, 1, 43200⟩))
    ∧ (43200 : Half).toNat = 43200 ∧ (9 : Byte).toNat = (9 : Subject).val ∧ (15 : Half).toNat ≤ 15 ∧ (7 : Byte).toNat ≤ 7
    ∧ (taking 0 (.place ⟨9, 0, 15, 1, 1, 0, 0⟩) s).link.execution = some (sent 0 (.place ⟨9, 0, 15, 1, 1, 0, 0⟩)) := by decide +kernel
theorem test_wit_PlaceRefused :
    let full := (List.finRange 48).map fun i => (i, { sample with owner := (if i.val < 12 then 2 else 0), tag := BitVec.ofNat 8 i.val })
    let s := stateOf full
    (taking 2 (.place ⟨1, 7, 200, 1, 1, 1, 1⟩) s).link.execution = some (sent 2 (.place ⟨1, 7, 200, 1, 1, 1, 1⟩))
    ∧ s.table[7] = some { sample with tag := 7 } ∧ (∀ j : SlotIx, ∀ x ∈ s.table[j], x.owner = 2 ∧ (1 : Byte).toNat = x.subject.val ∧ x.tag = 7 → j = 7)
    ∧ (∀ j : SlotIx, ∀ x ∈ s.table[j], ¬ (x.owner = 2 ∧ (1 : Byte).toNat = x.subject.val ∧ x.tag = 12)) ∧ 12 ≤ owned s.table 2
    ∧ (∀ i : SlotIx, s.table[i] ≠ none) ∧ owned s.table 3 < 12
    ∧ 9 < (10 : Byte).toNat ∧ 15 < (16 : Half).toNat ∧ 7 < (8 : Byte).toNat ∧ 1 < (2 : Byte).toNat ∧ 43200 < (43201 : Half).toNat := by decide +kernel
theorem test_wit_ChangeSplitsTightAndLoose :
    (199 : Half).toNat < sample.bound.toNat ∧ (200 : Half) = sample.bound ∧ sample.bound.toNat < (201 : Half).toNat
    ∧ (∀ p ∈ [Posture.desk, .lap, .bag], inMask sample.mask p = true → inMask 0b011 p = true)
    ∧ inMask sample.mask .desk = true ∧ inMask 0b010 .desk = false ∧ (0b010 : Mask) ≠ 0 := by decide
theorem test_wit_ChangeAltersRecord (m : Byte) (hm : m = 1 ∨ m = 7) :
    let f : ChangeFields := ⟨sampleKey, 201, m, ⟨1, 0⟩⟩
    (withSample 0 (.change f)).link.execution = some (sent 0 (.change f)) ∧ MayAlterSlot (withSample 0 (.change f)) 0 f.key f.expect 12 sample
    ∧ (sample.subject = 9 → f.bound.toNat ≤ 15) ∧ 1 ≤ f.mask.toNat ∧ f.mask.toNat ≤ 7 :=
  ⟨rfl, wit_mayAlter _ _ (.inr rfl) _ (.inr ⟨rfl, rfl⟩), fun h => absurd h (by decide), by rcases hm with h | h <;> subst h <;> decide,
    by rcases hm with h | h <;> subst h <;> decide⟩
theorem test_wit_RenewSetsLease :
    let f : RenewFields := ⟨sampleKey, 43200, ⟨0, 9⟩⟩
    let r : Record := { sample with owner := 0 }
    let g : RenewFields := ⟨⟨0, 1, 7⟩, 0, ⟨0, 0⟩⟩
    MayAlterSlot (withSample 2 (.renew f)) 2 f.key f.expect 12 sample ∧ f.lease.toNat ≤ 43200 ∧ f.lease ≠ 0 ∧ sample.cls = .ordinary
    ∧ MayAlterSlot (taking 0 (.renew g) (stateOf [(12, r)])) 0 g.key g.expect 12 r ∧ g.lease = 0 ∧ r.owner = 0 ∧ r.cls = .ordinary :=
  ⟨wit_mayAlter _ _ (.inl rfl) _ (.inl rfl), by decide, by decide, rfl, ⟨holdsKey_one ⟨rfl, rfl, rfl⟩, .inr rfl, rfl, .inl rfl⟩, rfl, rfl, rfl⟩
theorem test_wit_RetireWithdrawsRecord :
    let f : RetireFields := ⟨sampleKey, ⟨1, 0⟩⟩
    ResolvedOk (withSample 2 (.retire f)) ∧ MayAlterSlot (withSample 2 (.retire f)) 2 f.key f.expect 12 sample :=
  ⟨resolvedOk_stateOf _, wit_mayAlter _ _ (.inl rfl) _ (.inr ⟨rfl, rfl⟩)⟩
theorem test_wit_KeyedCommandsRefused (c : Command) (x : ExpectFields) (hx : x = ⟨1, 9⟩) :
    let gone := { sample with state := .retiring, lease := none }
    KeyedRefusal (withSample 2 c) 2 ⟨7, 9, 7⟩ x .notFound [] ∧ KeyInRange ⟨7, 9, 7⟩ ∧ FlagOk x.flag
    ∧ KeyedRefusal (withSample 3 c) 3 sampleKey x .denied []
    ∧ KeyedRefusal (taking 2 c (stateOf [(12, gone)])) 2 sampleKey x .retiring []
    ∧ KeyedRefusal (withSample 0 c) 0 sampleKey x .stale [12, 0]
    ∧ (∀ (i : SlotIx) (r : Record), HoldsKey (withSample 0 c).table sampleKey i r → ((0 : Requester) = r.owner ∨ (0 : Requester) = 0) →
        r.cls = .ordinary ∧ ((1 : Half) = 0 → r.owner = 0)) := by
  subst hx
  refine ⟨.notFound (noRecord_one ?_), ⟨by decide, by decide⟩, .inr rfl, .denied 12 sample (holdsKey_one names_sample) (by decide) (by decide),
    .retiring 12 _ (holdsKey_one ⟨rfl, rfl, rfl⟩) (.inl rfl) rfl, .stale 12 sample (holdsKey_one names_sample) (.inr rfl) rfl rfl (by decide), ?_⟩
  · rintro ⟨h, _⟩; exact absurd h (by decide)
  · rintro i r ⟨h, _, _⟩ _
    have h : (tableOf [(12, sample)])[i] = some r := h
    rw [tableOf_one] at h
    split at h
    · cases h; exact ⟨rfl, by decide⟩
    · cases h
/-- RENEW refused RANGE on its record: an anchored record, and a lease of 0 on another's. -/
theorem test_wit_renew_record_range :
    let anchored : Record := { sample with owner := 0, cls := .anchored, lease := none }
    HoldsKey (tableOf [(9, anchored)]) ⟨0, 1, 7⟩ 9 anchored ∧ anchored.cls = .anchored ∧ HoldsKey (tableOf [(12, sample)]) sampleKey 12 sample
    ∧ sample.owner ≠ 0 ∧ (0 : Half).toNat ≤ 43200 := ⟨holdsKey_one ⟨rfl, rfl, rfl⟩, rfl, holdsKey_one names_sample, by decide, by decide⟩
theorem test_wit_TableCommandsRefusedRange (c : Command) : (withSample 2 c).link.execution = some (sent 2 c)
    ∧ ¬ KeyInRange ⟨8, 9, 0⟩ ∧ ¬ KeyInRange ⟨7, 10, 0⟩ ∧ 15 < (16 : Half).toNat ∧ 7 < (8 : Byte).toNat ∧ ¬ FlagOk 2
    ∧ 43200 < (43201 : Half).toNat ∧ (sent 2 c).requester ≠ 0 ∧ 9 < (10 : Byte).toNat ∧ (10 : Byte) ≠ 0xFF ∧ 47 < (48 : Byte).toNat :=
  ⟨rfl, by unfold KeyInRange; decide, by unfold KeyInRange; decide, by decide, by decide, by unfold FlagOk; decide, by decide,
    by show (2 : Requester) ≠ 0; decide, by decide, by decide, by decide⟩
theorem test_wit_SweepRetiresRecords (c : Command) : ResolvedOk (withSample 0 c) ∧ (withSample 0 c).link.execution = some (sent 0 c)
    ∧ (7 : Byte).toNat = (7 : Requester).val ∧ (9 : Byte).toNat = (9 : Subject).val ∧ (sent 0 c).requester = 0
    ∧ (sent 3 c).requester ≠ 0 ∧ (2 : Requester) ≠ (sent 3 c).requester :=
  ⟨resolvedOk_stateOf _, rfl, rfl, rfl, rfl, by show (3 : Requester) ≠ 0; decide, by show (2 : Requester) ≠ 3; decide⟩
theorem test_wit_TableReads :
    HoldsKey (withSample 5 (.lookup sampleKey)).table sampleKey 12 sample ∧ KeyInRange ⟨0, 0, 0⟩ ∧ NoRecord (withSample 5 (.lookup ⟨0, 0, 0⟩)).table ⟨0, 0, 0⟩
    ∧ (47 : Byte).toNat = (47 : SlotIx).val ∧ ([0, 1, 2] ++ [12] : List SlotIx).Pairwise (· < ·)
    ∧ (let s := stateOf [(0, sample), (1, sample), (2, sample), (12, sample)]
       (∀ i : SlotIx, i ∈ ([0, 1, 2] ++ [12] : List SlotIx) ↔ 0 ≤ i ∧ s.table[i] ≠ none)
       ∧ (∀ i : SlotIx, i ∈ ([12] ++ [] : List SlotIx) ↔ 12 ≤ i ∧ s.table[i] ≠ none)) := by
  refine ⟨holdsKey_one names_sample, ⟨by decide, by decide⟩, noRecord_one ?_, by decide, by decide, by decide +kernel⟩
  rintro ⟨h, _⟩; exact absurd h (by decide)
theorem test_wit_CommitTakesPendingParts :
    let s := { stateOf [(3, { sample with state := .retiring, lease := none }), (4, { sample with pendingBound := some 300 }), (5, sample)] with
      timebase := ⟨4000, 0⟩ }
    s.commitTimers[1].nextExpiry = s.timebase.count ∧ (s.table[3].map (·.state)) = some .retiring ∧ (s.table[4].map (·.pendingBound)) = some (some 300)
    ∧ s.table[5] = some sample ∧ s.table[6] = none ∧ s.commitTimers[3].nextExpiry ≠ s.timebase.count := by decide +kernel
theorem test_wit_SettingsWritten (c : Command) : (taking 0 c State.reset).link.execution = some (sent 0 c)
    ∧ (9 : Byte).toNat = (9 : Subject).val ∧ (7 : Byte).toNat = (7 : Fin 8).val ∧ 9 < (10 : Byte).toNat ∧ 7 < (8 : Byte).toNat
    ∧ (3 : Byte).toNat ≤ 3 ∧ (2550 : Half).toNat ≤ 2550 ∧ (2550 : Half).toNat % 10 = 0 ∧ (25500 : Half).toNat ≤ 25500 ∧ (25500 : Half).toNat % 100 = 0
    ∧ 3 < (4 : Byte).toNat ∧ ¬ ((2560 : Half).toNat ≤ 2550) ∧ ¬ ((2545 : Half).toNat % 10 = 0) ∧ ¬ ((25600 : Half).toNat ≤ 25500)
    ∧ (3 : Byte) ≠ 1 ∧ (3 : Byte) ≠ 2 ∧ (3 : Byte) ≠ 4 ∧ (3 : Byte) ≠ 8
    ∧ (8 : Byte).toNat = (8 : Measured).val ∧ (12 : Byte).toNat = (12 : Fin 13).val ∧ 8 < (9 : Byte).toNat ∧ 12 < (13 : Byte).toNat :=
  ⟨rfl, by decide⟩
theorem test_wit_LeaseTickCountsDown : ∃ s : State, ResolvedOk s ∧ TableOk s.table ∧ s.leaseClock = s.timebase.count
    ∧ s.table[0] = none ∧ s.table[12] = some { sample with lease := some 1 } := by
  refine ⟨{ stateOf [(12, { sample with lease := some 1 })] with timebase := ⟨1000, 0⟩ }, resolvedOk_stateOf _, ?_, by decide +kernel,
    by decide +kernel, by decide +kernel⟩
  refine ⟨?_, ?_, ?_⟩
  · intro i r hr
    have hr : (tableOf [(12, { sample with lease := some 1 })])[i] = some r := hr
    rw [tableOf_one] at hr
    split at hr
    · cases hr; refine ⟨by decide, nofun, nofun, ?_, nofun, fun _ _ => rfl, nofun, by decide⟩
      rintro n ⟨⟩; decide
    · cases hr
  · intro i j r hr q hq _ _ _
    have hr : (tableOf [(12, { sample with lease := some 1 })])[i] = some r := hr
    have hq : (tableOf [(12, { sample with lease := some 1 })])[j] = some q := hq
    rw [tableOf_one] at hr hq
    split at hr
    · split at hq
      · rename_i h1 h2; rw [← h1, ← h2]
      · cases hq
    · cases hr
  · show ∀ a : Requester, a ≠ 0 → owned (tableOf [(12, { sample with lease := some 1 })]) a ≤ 12
    decide +kernel

/-- On the desk, with the lid open and the dock present. -/
def onDesk : State := { State.reset with posture := { State.reset.posture with levels := #v[true, true, false, false, true], current := .desk } }

theorem test_wit_PostureEdgeActsOnSettle :
    let raw := fun s : State => rawPosture s.posture.levels
    State.reset.posture.levels[inputIndex .lid] ≠ true ∧ raw State.reset = .bag ∧ State.reset.posture.current = .bag
    ∧ raw (after (.postureInputEdge .contact true) State.reset) = raw State.reset
    ∧ raw opened = .desk ∧ raw (after (.postureInputEdge .lid false) opened) = opened.posture.current
    ∧ raw onDesk = .desk ∧ raw (after (.postureInputEdge .dock false) (after (.postureInputEdge .contact true) onDesk)) = .lap
    ∧ postureIndex onDesk.posture.current < postureIndex .lap ∧ onDesk.posture.strictTime ≠ 0
    ∧ (completes 0 (.setPosture 3 0 0) onDesk).posture.strictTime = 0 ∧ (completes 0 (.setPosture 3 0 0) onDesk).posture.looseTime = 0
    ∧ postureIndex .desk < postureIndex State.reset.posture.current ∧ State.reset.posture.levels[motionIndex] = false
    ∧ (after (.motionEdge true) State.reset).posture.levels[motionIndex] = true := by decide +kernel
theorem test_wit_MotionHoldsLooseSettle :
    let strict := after (.postureInputEdge .contact true) (after (.postureInputEdge .dock false) onDesk)
    let held := after (.motionEdge true) opened
    let heldZero := after (.postureInputEdge .lid true) (after (.motionEdge true) (completes 0 (.setPosture 2 0 0) State.reset))
    State.reset.posture.levels[motionIndex] ≠ true ∧ State.reset.posture.settle = none
    ∧ strict.posture.settle = some ⟨.lap, .strict, 250, some 250⟩ ∧ strict.posture.levels[motionIndex] ≠ true
    ∧ opened.posture.settle = some ⟨.desk, .loose, 3000, some 3000⟩ ∧ opened.posture.levels[motionIndex] ≠ true
    ∧ held.posture.settle = some ⟨.desk, .loose, 3000, none⟩ ∧ held.posture.levels[motionIndex] ≠ false
    ∧ heldZero.posture.settle = some ⟨.desk, .loose, 0, none⟩ ∧ heldZero.posture.levels[motionIndex] ≠ false := by decide +kernel
theorem test_wit_AdapterEdgeRequestsSpotCheck : State.reset.posture.levels[adapterIndex] ≠ true ∧ onDesk.posture.levels[adapterIndex] ≠ false
    ∧ ∀ q ∈ ([.idle, .starting 2, .converting 8 ⟨0, 9⟩, .gap 8 1, .spot ⟨0, 10⟩ none] : List Sequencer),
        (State.withSequencer onDesk q).measure.sequencer = q ∧ (State.withSequencer onDesk q).posture.levels[adapterIndex] ≠ false := by decide +kernel
theorem test_wit_SettleExpiryChangesPosture :
    let s := { opened with timebase := ⟨3000, 0⟩ }
    s.posture.settle = some ⟨.desk, .loose, 3000, some 3000⟩ ∧ some (3000 : Count) = some s.timebase.count
    ∧ (changePosture { s with table := tableOf [], resolver := Vector.replicate 10 ⟨none, none, 0⟩ } .desk).fanCap = 15 := by decide +kernel
theorem test_wit_EntryAndRecompute :
    let t := tableOf [(12, sample)]
    (computeEntry t .desk 1).winner = some 12 ∧ (computeEntry t .bag 1).winner = none
    ∧ (recompute (stateOf [(12, sample)]) 1).fanCap = (stateOf [(12, sample)]).fanCap
    ∧ (recompute { State.reset with table := tableOf [] } 9).fanCap ≠ State.reset.fanCap
    ∧ (⟨none, none, 0⟩ : Entry).limit = none ∧ (⟨some 15, some 9, 1⟩ : Entry).limit = some 15 ∧ (15 : Half).toNat ≤ 15 := by decide +kernel
theorem test_wit_ScanTimerOffersScan :
    ∀ q ∈ ([.idle, .starting 0, .converting 8 ⟨1, 9⟩, .gap 8 0, .spot ⟨1, 9⟩ none, .spot ⟨1, 9⟩ (some (.gap 1 1))] : List Sequencer),
      let s := { sequencing q with timebase := ⟨1, 0⟩ }
      s.measure.scan.next = s.timebase ∧ s.measure.sequencer = q := by decide +kernel
theorem test_wit_Completion :
    let s := (sequencing .idle).withMeasure { State.reset.measure with filters := Vector.replicate 9 (some 1000) }
    ((2 : Channel).val = 2 ∧ (3 : Measured).val = (2 : Channel).val + 1 ∧ (1 : Measured).val ≤ 1)
    ∧ State.reset.measure.filters[(0 : Measured)] = none ∧ s.measure.filters[(0 : Measured)] = some 1000
    ∧ 1000 ≤ sampleOf 2 64 ∧ sampleOf 1 64 < 1000
    ∧ State.reset.trip.active = judgedSet State.reset.trip State.reset.measure.latest ∧ State.reset.trip.saturated = saturatedSet State.reset.governor := by
  decide +kernel
theorem test_wit_CompletionJudgesChannelSource : ActiveOk stopping ∧ TripOk stopping.trip ∧ OutputsOk stopping := by
  unfold ActiveOk TripOk OutputsOk; decide +kernel

/-- CH8 below its level trips, CH7 at its level stops, or is acknowledged at once, and a code short of its level does nothing. -/
theorem test_completion_trips :
    let acked := { State.reset with trip := { State.reset.trip with stopAck := true } }
    (completion State.reset 8 299).trip.state = .tripped ∧ (completion State.reset 8 299).trip.capture = some (0, 8)
    ∧ (completion State.reset 8 300).trip = State.reset.trip
    ∧ (completion State.reset 7 900).trip.state = .stopping ∧ (completion State.reset 7 900).trip.stopTimer = some 50
    ∧ (completion State.reset 7 900).link.notices[5].pending = 0b010000 ∧ (completion State.reset 7 900).outputs[0].state = .forced
    ∧ (completion acked 7 900).trip.state = .stopped ∧ (completion State.reset 7 899).trip = State.reset.trip
    ∧ (completion stopping 7 900).trip.state = .stopping ∧ (completion stopping 7 900).trip.latched = 0b01010000000
    ∧ (completion stopping 7 900).trip.capture = stopping.trip.capture := by decide +kernel

/-- A part whose subject CELL is saturated, not yet handed over. -/
def saturatedPart (t : TripUnit) : State :=
  { State.reset with
    governor := { Default.governor with subjects := Default.governor.subjects.set 8 { Default.governedTemperature with saturated := true } }
    trip := t }

/-- SAT rises, grave or not, acknowledged or not, masked by its latching, and falls; with no change only the set is kept. -/
theorem test_wit_handSaturated :
    let t := State.reset.trip
    let risen := handSaturated (saturatedPart t)
    (¬ (saturatedPart t).trip.active.getLsbD 10 = true) ∧ risen.trip.state = .tripped ∧ risen.trip.capture = some (0, satSource)
    ∧ risen.trip.saturated = 0b100000000 ∧ risen.outputs[0].state = .forced ∧ risen.outputs[2].state = .tracking
    ∧ (handSaturated (saturatedPart { t with stopClass := 0b10000000000 })).trip.state = .stopping
    ∧ (handSaturated (saturatedPart { t with stopClass := 0b10000000000, stopAck := true })).trip.state = .stopped
    ∧ (handSaturated (saturatedPart { t with state := .off, latched := 1 })).trip.state = .off
    ∧ (handSaturated (saturatedPart { t with state := .tripped, latched := 0b10000000000 })).trip.active = 0b10000000000
    ∧ (handSaturated (saturatedPart { t with enable := 0 })).trip.active = 0
    ∧ (handSaturated { risen with governor := Default.governor }).trip.active = 0
    ∧ (handSaturated { risen with governor := Default.governor }).trip.latched = 0b10000000000 := by decide +kernel

/-- A CH0 completion due at the end of a period of FAN_PWM, with READ GOVERNOR in execution and PKG_LONG at pressure 3: readers stand there. -/
def readAround : State :=
  let s := taking 1 .readGovernor (sequencing (.converting 0 ⟨0, 48⟩))
  let g := { s.governor with subjects := s.governor.subjects.set 1 { Default.governedPower with pressure := 3 } }
  { s with timebase := ⟨0, 48⟩, governor := { g with targets := g.targets.set 0 3 }, outputs := s.outputs.set 0 { s.outputs[0] with nextEnd := ⟨0, 48⟩ } }

/-- Between the two evaluations a reader sees one step made and not the other, whichever is taken first (R125). -/
theorem test_reader_between_evaluations :
    let applied := fun order : List CompletionPart => (order.foldl (takePart 1023) readAround).outputs[0].applied
    let read := fun order : List CompletionPart => (reply (order.foldl (takePart 1023) readAround)).map fun p => (p.2[0]?, p.2[1]?, p.2[11]?)
    applied [.evaluation 0, .periodEnd 0, .evaluation 1, .judgement] = 3 ∧ applied [.evaluation 1, .periodEnd 0, .evaluation 0, .judgement] = 4
    ∧ read [.evaluation 0, .readGovernor, .evaluation 1, .judgement] = some (some 1, some 3, some 3)
    ∧ read [.evaluation 1, .readGovernor, .evaluation 0, .judgement] = some (some 0, some 4, some 4)
    ∧ (completion readAround 0 1023).governor.targets[0] = 4 := by decide +kernel
theorem test_wit_readers : readAround.measure.sequencer = .converting 0 readAround.timebase ∧ readAround.outputs[0].nextEnd = readAround.timebase
    ∧ readAround.outputs[0].state ≠ .forced ∧ readAround.link.execution = some (sent 1 .readGovernor) ∧ (0 : Measured) ≠ 1
    ∧ TargetsOk readAround ∧ ActiveOk readAround ∧ TripOk readAround.trip
    ∧ (∀ ix : OutputIx, (sequencing (.converting 0 ⟨0, 0⟩)).outputs[ix].nextEnd ≠ ⟨0, 0⟩)
    ∧ (sequencing (.converting 0 ⟨0, 0⟩)).link.execution = none := by
  unfold TargetsOk ActiveOk TripOk; decide +kernel
/-- A CH0 completion at whose moment no reader stands is evaluated through the row itself. -/
theorem test_conversion_without_readers :
    (after (.conversionCompletion 300) (sequencing (.converting 0 ⟨0, 0⟩))).measure.filters[1] = some 153600
    ∧ (after (.conversionCompletion 300) (sequencing (.converting 0 ⟨0, 0⟩))).measure.sequencer = .gap 1 1 := by decide +kernel
theorem test_wit_SequencerSteps :
    ∀ q ∈ ([.starting 0, .gap 1 0, .gap 8 0, .converting 0 ⟨0, 0⟩, .converting 7 ⟨0, 0⟩, .converting 8 ⟨0, 0⟩, .spot ⟨0, 0⟩ none,
        .spot ⟨0, 0⟩ (some (.starting 0)), .spot ⟨0, 0⟩ (some (.starting 2)), .spot ⟨0, 0⟩ (some (.gap 8 0)), .spot ⟨0, 0⟩ (some (.gap 8 1)),
        .spot ⟨0, 0⟩ (some (.converting 8))] : List Sequencer),
      (sequencing q).measure.sequencer = q ∧ (sequencing q).timebase = ⟨0, 0⟩ := by decide +kernel
theorem test_wit_PressureSteps :
    let g := Default.governedTemperature
    isAbove (some 332) 333 = true ∧ isAbove (some 332) 332 = false ∧ isBelow (some 332) g.hysteresis 327 = true
    ∧ isBelow (some 332) g.hysteresis 328 = false ∧ g.pressure.val < 15 ∧ holdElapsed (some 10000) g.riseHold 10200 = true
    ∧ holdElapsed (some 10000) g.riseHold 10199 = false ∧ 65536 ≤ ((65536 : Count) - 0).toNat ∧ ¬ 65536 ≤ ((65535 : Count) - 0).toNat := by decide
theorem test_wit_SaturationRuns :
    let g := { Default.governedTemperature with pressure := 15 }
    (g.pressure = 15 ∧ (332 : Half).toNat < 333) ∧ g.runStart = none ∧ g.saturationTime ≠ 0 ∧ 16 * g.saturationTime.toNat ≤ ((2000 : Count) - 0).toNat
    ∧ ((1999 : Count) - 0).toNat < 16 * g.saturationTime.toNat ∧ { g with saturationTime := 0 }.saturationTime = 0
    ∧ Default.governedTemperature.pressure ≠ 15 ∧ { g with runStart := some 5 }.runStart ≠ none := by decide
theorem test_wit_GovernorCommands (c : Command) : (taking 0 c State.reset).link.execution = some (sent 0 c)
    ∧ (8 : Byte).toNat = (8 : Measured).val ∧ (1 : Half) ≠ 0 ∧ 8 < (9 : Byte).toNat
    ∧ (Default.governed 4 200 2000 0).saturationTime = 0 ∧ (126 : Byte) ≠ Default.governedTemperature.saturationTime
    ∧ Default.governedTemperature.saturationTime ≠ 0 ∧ Default.governedTemperature.saturated = false
    ∧ ({ Default.governedTemperature with saturated := true }).saturated = true
    ∧ (3 : Byte).toNat = (3 : OutputIx).val ∧ (15 : Byte).toNat = (15 : Level).val ∧ 3 < (4 : Byte).toNat ∧ 15 < (16 : Byte).toNat ∧ (16 : Byte) ≠ 0xFF :=
  ⟨rfl, by decide⟩
theorem test_wit_PeriodEndTakesTarget : ({ State.reset with timebase := ⟨0, 48⟩ } : State).outputs[3].nextEnd = ⟨0, 48⟩
    ∧ State.reset.outputs[3].state ≠ .forced ∧ ({ stopping with timebase := ⟨0, 48⟩ } : State).outputs[3].nextEnd = ⟨0, 48⟩
    ∧ stopping.outputs[3].state = .forced := by decide +kernel
theorem test_wit_later : Moment.later ⟨0xFFFFFFFF, 999⟩ 1 = ⟨0, 0⟩ ∧ Moment.later ⟨7, 999⟩ 1 = ⟨8, 0⟩ ∧ Moment.later ⟨7, 990⟩ 9 = ⟨7, 999⟩
    ∧ 2 ^ 32 * 1000 - 1 < 2 ^ 32 * 1000 ∧ microsUntil ⟨7, 990⟩ (Moment.later ⟨7, 990⟩ (2 ^ 32 * 1000 - 1)) = 2 ^ 32 * 1000 - 1
    ∧ microsUntil ⟨0xFFFFFFFF, 999⟩ ⟨0, 47⟩ = 48 := by decide +kernel
theorem test_wit_HandOverForcesAndReleases : stopping.outputs[2].mask.getLsbD 9 = true ∧ stopping.trip.active.getLsbD 9 = true
    ∧ stopping.trip.latched.getLsbD 9 = true ∧ (stopping.withTrip State.reset.trip).outputs[2].state = .forced
    ∧ State.reset.trip.active = 0 ∧ State.reset.outputs[2].state ≠ .forced := by decide +kernel
theorem test_wit_PulseFollowsAppliedLevel :
    let o := Default.outputs[3]
    0 < 16 * o.period.toNat ∧ microsUntil ⟨0, 0⟩ o.nextEnd = 16 * o.period.toNat - 0 ∧ 47 < 16 * o.period.toNat
    ∧ microsUntil ⟨0, 47⟩ o.nextEnd = 16 * o.period.toNat - 47 ∧ o.state = .tracking ∧ (3 : OutputIx) ≠ chargeOutput ∧ (2 : OutputIx) = chargeOutput
    ∧ ({ o with state := .releasing }).state ≠ .tracking := by decide +kernel
theorem test_wit_SetOutputActsAtOnce (c : Command) : (taking 0 c State.reset).link.execution = some (sent 0 c)
    ∧ (3 : Byte).toNat = (3 : OutputIx).val ∧ (255 : Byte) ≠ 0 ∧ (2047 : Half).toNat < 2048 ∧ 3 < (4 : Byte).toNat ∧ 1 < (2 : Byte).toNat
    ∧ 2048 ≤ (2048 : Half).toNat ∧ stopping.outputs[2].state = .forced ∧ State.reset.outputs[2].state ≠ .forced
    ∧ (2047 : SourceSet) &&& stopping.trip.active ≠ 0 ∧ ¬ ((0 : SourceSet) &&& stopping.trip.active ≠ 0) := ⟨rfl, by decide +kernel⟩
theorem test_wit_OvertempEdgeTrips :
    let disabled := { State.reset with trip := { State.reset.trip with enable := 0 } }
    let mild := { State.reset with trip := { State.reset.trip with stopClass := 0 } }
    let acked := { State.reset with trip := { State.reset.trip with stopAck := true } }
    let off := { State.reset with trip := { State.reset.trip with state := .off, latched := 0b1 } }
    ∀ s ∈ [State.reset, disabled, mild, acked, off, after (.overtempEdge false) stopping],
      s.trip.overtemp ≠ true ∧ s.trip.active = judgedSet s.trip s.measure.latest ∧ s.trip.saturated = saturatedSet s.governor := by decide +kernel
theorem test_wit_overtemp_falls : stopping.trip.overtemp ≠ false ∧ stopping.trip.enable.getLsbD 9 = true ∧ ActiveOk stopping := by
  unfold ActiveOk; decide +kernel
theorem test_wit_StopHandshakeEnds : stopping.trip.stopAck ≠ true ∧ stopping.trip.state = .stopping
    ∧ (after (.stopAckEdge true) stopping).trip.stopAck ≠ false ∧ (after (.stopAckEdge true) stopping).trip.state ≠ .stopping
    ∧ ({ stopping with timebase := ⟨43150, 0⟩ } : State).trip.stopTimer = some 43150 := by decide +kernel
theorem test_wit_ResumeReturnsToArmed (t : TripState) :
    (taking 0 .resume { State.reset with trip := { State.reset.trip with state := t } }).trip.state = t
    ∧ (taking 0 .resume { State.reset with trip := { State.reset.trip with state := t } }).link.execution = some (sent 0 .resume)
    ∧ stopping.trip.latched &&& stopping.trip.active ≠ 0 ∧ (after (.overtempEdge false) stopping).trip.latched &&& 0 = 0 :=
  ⟨rfl, rfl, by decide +kernel, by decide +kernel⟩
theorem test_wit_SetTripJudgesAllSources :
    let reserved := fun w : BitVec 128 => (List.range 128).any fun i => (i == 22 || i == 23 || decide (122 ≤ i)) && w.getMsbD i
    let low : BitVec 128 := BitVec.ofNat 128 (2 ^ 96)
    reserved (BitVec.ofNat 128 (2 ^ 105)) = true ∧ reserved (BitVec.ofNat 128 (2 ^ 104)) = true ∧ reserved 1 = true
    ∧ reserved (BitVec.ofNat 128 (2 ^ 5)) = true ∧ reserved low = false ∧ low.extractLsb' 96 8 ≠ 0 ∧ (0 : BitVec 128).extractLsb' 96 8 = 0
    ∧ reserved (BitVec.ofNat 128 (2 ^ 118 + 2 ^ 96)) = false ∧ (taking 0 (.setTrip low) stopping).link.execution = some (sent 0 (.setTrip low)) := by
  decide +kernel

/-! The invariants hold somewhere, and a step leads on from there. -/

theorem test_wit_StepKeepsTable : TableOk (tableOf []) := by
  refine ⟨?_, ?_, ?_⟩
  · intro i r hr; simp [tableOf] at hr
  · intro i j r hr; simp [tableOf] at hr
  · decide +kernel
theorem test_wit_StepKeepsEntriesAndTargets : ResolvedOk (stateOf [(12, sample)]) ∧ TargetsOk (stateOf [(12, sample)]) :=
  ⟨resolvedOk_stateOf _, by unfold TargetsOk; decide +kernel⟩
theorem test_wit_StepKeepsPosture : PostureOk opened.posture := by
  refine ⟨by decide +kernel, ?_, by decide +kernel, by decide +kernel, by decide +kernel, by decide +kernel⟩
  intro x hx
  rw [show opened.posture.settle = some ⟨.desk, .loose, 3000, some 3000⟩ by decide +kernel] at hx
  cases hx
  unfold SettleOk; decide +kernel
theorem test_wit_StepKeepsMeasurement : MeasureOk (sequencing (.gap 8 1)) := by
  have empty : ∀ m : Measured, (sequencing (.gap 8 1)).measure.filters[m] = none := by decide +kernel
  refine ⟨⟨by decide, by decide⟩, ?_, ?_⟩
  · intro m f hf
    rw [empty m] at hf; cases hf
  · unfold GovernedOk; decide +kernel
theorem test_wit_StepKeepsTripAndOutputs : TripOk stopping.trip ∧ ActiveOk stopping ∧ OutputsOk stopping := by
  unfold TripOk ActiveOk OutputsOk; decide +kernel
theorem test_wit_StepKeepsLinkPort : NoticesOk stopping.link ∧ CompletionInTime (taking 2 changeCommand State.reset) := by
  refine ⟨by unfold NoticesOk; decide +kernel, ?_⟩
  rintro e ⟨⟩
  exact ⟨by decide, by decide⟩
theorem test_wit_StepMissesNothing : NothingMissed (sequencing (.starting 1)) := by
  refine ⟨by decide +kernel, by decide +kernel, ?_, by decide +kernel, by decide +kernel, by decide +kernel, ?_⟩
  · intro x hx
    rw [show (sequencing (.starting 1)).posture.settle = none by decide +kernel] at hx
    cases hx
  · intro h; exact absurd h (by decide)
theorem test_wit_steps_on : ∃ t, step stopping = .next t := ⟨_, rfl⟩

end Sys2Proof.Tests
end

section
/-! SUPPORT. Masks posture by posture, and what the bound part and the mask part of a CHANGE write (R34, R35), with the statement that they
split an accepted CHANGE into its tight and its loose part. -/

namespace Sys2Proof.Machine

/-! ### Masks posture by posture (R8) -/

@[simp] theorem inMask_or (m n : Mask) (p : Posture) : inMask (m ||| n) p = (inMask m p || inMask n p) := by
  unfold inMask; exact BitVec.getLsbD_or

@[simp] theorem inMask_and (m n : Mask) (p : Posture) : inMask (m &&& n) p = (inMask m p && inMask n p) := by
  unfold inMask; exact BitVec.getLsbD_and

/-- The three bits of a mask are its three postures, so a mask holds nothing more than which postures are in it. -/
theorem mask_ext {m n : Mask} (h : ∀ p : Posture, inMask m p = inMask n p) : m = n := by
  apply BitVec.eq_of_getLsbD_eq
  intro i hi
  match i, hi with
  | 0, _ => exact h .desk
  | 1, _ => exact h .lap
  | 2, _ => exact h .bag

/-- The model's test of containment is the containment of sets of postures. -/
theorem and_eq_right_iff_contains (n m : Mask) : n &&& m = m ↔ ∀ p : Posture, inMask m p = true → inMask n p = true := by
  constructor
  · intro h p hp
    rw [← h, inMask_and, Bool.and_eq_true] at hp
    exact hp.1
  · intro h
    apply mask_ext
    intro p
    rw [inMask_and, Bool.and_eq_right_iff_imp]
    exact h p

/-! ### The two parts of a CHANGE (R34, R35) -/

section
variable (bound : Half) (new : Mask) (r : Record)

theorem changeBound_bound : (changeBound bound r).bound = if bound.toNat < r.bound.toNat then bound else r.bound := by
  unfold changeBound
  split
  · rfl
  · split <;> rfl

theorem changeBound_pendingBound : (changeBound bound r).pendingBound = if bound.toNat ≤ r.bound.toNat then none else some bound := by
  unfold changeBound
  split
  case isTrue tighter => rw [if_pos tighter.le]
  case isFalse notTighter =>
    split
    case isTrue same => rw [if_pos (same ▸ le_rfl)]
    case isFalse other =>
      rw [if_neg]
      intro le
      exact other (BitVec.eq_of_toNat_eq (le.antisymm (not_lt.mp notTighter)))

@[simp] theorem changeBound_mask : (changeBound bound r).mask = r.mask := by
  unfold changeBound
  split
  · rfl
  · split <;> rfl

@[simp] theorem changeMask_bound : (changeMask new r).bound = r.bound := by unfold changeMask; split <;> rfl

@[simp] theorem changeMask_pendingBound : (changeMask new r).pendingBound = r.pendingBound := by unfold changeMask; split <;> rfl

theorem changeMask_mask : (changeMask new r).mask = if new &&& r.mask = r.mask then new else r.mask ||| new := by
  unfold changeMask; split <;> rfl

theorem changeMask_pendingMask : (changeMask new r).pendingMask = if new &&& r.mask = r.mask then none else some new := by
  unfold changeMask; split <;> rfl

/-! ### The four fields after a CHANGE: the parts meet different fields, and the generation (R36) none of them -/

theorem changed_eq_parts : ∃ g : Byte, changed bound new r = { changeMask new (changeBound bound r) with generation := g } := by
  unfold changed
  dsimp only
  split
  · exact ⟨_, rfl⟩
  · exact ⟨_, rfl⟩

theorem changed_bound : (changed bound new r).bound = if bound.toNat < r.bound.toNat then bound else r.bound := by
  obtain ⟨g, parts⟩ := changed_eq_parts bound new r
  simp only [parts, changeMask_bound, changeBound_bound]

theorem changed_pendingBound : (changed bound new r).pendingBound = if bound.toNat ≤ r.bound.toNat then none else some bound := by
  obtain ⟨g, parts⟩ := changed_eq_parts bound new r
  simp only [parts, changeMask_pendingBound, changeBound_pendingBound]

theorem changed_mask : (changed bound new r).mask = if new &&& r.mask = r.mask then new else r.mask ||| new := by
  obtain ⟨g, parts⟩ := changed_eq_parts bound new r
  simp only [parts, changeMask_mask, changeBound_mask]

theorem changed_pendingMask : (changed bound new r).pendingMask = if new &&& r.mask = r.mask then none else some new := by
  obtain ⟨g, parts⟩ := changed_eq_parts bound new r
  simp only [parts, changeMask_pendingMask, changeBound_mask]

end

/-! ### Tightening, loosening, containing -/

section
variable {bound : Half} {new : Mask} {r : Record}

theorem changed_of_tighter (h : bound.toNat < r.bound.toNat) :
    (changed bound new r).bound = bound ∧ (changed bound new r).pendingBound = none := by
  rw [changed_bound, changed_pendingBound, if_pos h, if_pos h.le]
  exact ⟨rfl, rfl⟩

theorem changed_of_same_bound (h : bound = r.bound) :
    (changed bound new r).bound = r.bound ∧ (changed bound new r).pendingBound = none := by
  subst h
  rw [changed_bound, changed_pendingBound, if_neg (lt_irrefl _), if_pos le_rfl]
  exact ⟨rfl, rfl⟩

theorem changed_of_looser (h : r.bound.toNat < bound.toNat) :
    (changed bound new r).bound = r.bound ∧ (changed bound new r).pendingBound = some bound := by
  rw [changed_bound, changed_pendingBound, if_neg h.le.not_gt, if_neg h.not_ge]
  exact ⟨rfl, rfl⟩

theorem changed_of_contains (h : ∀ p : Posture, inMask r.mask p = true → inMask new p = true) :
    (changed bound new r).mask = new ∧ (changed bound new r).pendingMask = none := by
  have contained := (and_eq_right_iff_contains new r.mask).mpr h
  rw [changed_mask, changed_pendingMask, if_pos contained, if_pos contained]
  exact ⟨rfl, rfl⟩

theorem changed_of_not_contains (h : ¬ ∀ p : Posture, inMask r.mask p = true → inMask new p = true) :
    (changed bound new r).mask = r.mask ||| new ∧ (changed bound new r).pendingMask = some new := by
  have notContained := mt (and_eq_right_iff_contains new r.mask).mp h
  rw [changed_mask, changed_pendingMask, if_neg notContained, if_neg notContained]
  exact ⟨rfl, rfl⟩

/-- Only a loosening leaves a pending bound (R9): the other two rows of R34 leave none. -/
theorem changed_pendingBound_greater {b : Half} (hb : (changed bound new r).pendingBound = some b) :
    (changed bound new r).bound.toNat < b.toNat := by
  rcases lt_trichotomy bound.toNat r.bound.toNat with tighter | same | looser
  · rw [(changed_of_tighter tighter).2] at hb; cases hb
  · rw [(changed_of_same_bound (BitVec.eq_of_toNat_eq same)).2] at hb; cases hb
  · obtain ⟨kept, staged⟩ := changed_of_looser (new := new) looser
    rw [staged] at hb
    cases hb
    rw [kept]
    exact looser

/-- A pending mask is what is left when the union of old and new is in force (R10). It is not that union, since it does not contain the old
mask. -/
theorem changed_pendingMask_strict {m : Mask} (hm : (changed bound new r).pendingMask = some m) :
    m = new ∧ m ≠ (changed bound new r).mask ∧ ∀ p : Posture, inMask m p = true → inMask (changed bound new r).mask p = true := by
  by_cases contains : ∀ p : Posture, inMask r.mask p = true → inMask new p = true
  · rw [(changed_of_contains contains).2] at hm; cases hm
  · obtain ⟨union, staged⟩ := changed_of_not_contains (bound := bound) contains
    rw [staged] at hm
    cases hm
    rw [union]
    refine ⟨rfl, fun isUnion => contains fun p hp => ?_, fun p hp => ?_⟩
    · rw [isUnion, inMask_or, hp, Bool.true_or]
    · rw [inMask_or, hp, Bool.or_true]

end

/-- Settles O20: each row of the tables of R34 and R35 is one lemma about `changed`, and so are the consequences for what it leaves pending. -/
theorem changeSplitsTightAndLoose : Obligations.ChangeSplitsTightAndLoose := by
  intro bound new r
  refine ⟨changed_of_tighter, changed_of_same_bound, changed_of_looser, fun _ => changed_pendingBound_greater, changed_of_contains,
    fun notContained => ?_, fun nonempty m hm => ?_⟩
  · obtain ⟨union, staged⟩ := changed_of_not_contains (bound := bound) notContained
    exact ⟨fun p => by rw [union, inMask_or], staged⟩
  · obtain ⟨rfl, strict, subset⟩ := changed_pendingMask_strict hm
    exact ⟨nonempty, strict, subset⟩

end Sys2Proof.Machine
end

section
/-! SUPPORT. The settle timer started (R75) and the settle machine at an edge of MOTION (R76), one equation per state of the machine, with the
statement that MOTION acts on a LOOSE settle alone. -/

namespace Sys2Proof.Machine

/-! ### The edge kept, and the timer started (R70, R71, R75) -/

@[simp] theorem keepEdge_settle (s : State) (i : Fin 5) (level : Bool) : (keepEdge s i level).posture.settle = s.posture.settle := rfl

@[simp] theorem keepEdge_timebase (s : State) (i : Fin 5) (level : Bool) : (keepEdge s i level).timebase = s.timebase := rfl

/-- A duration has fewer bits than the count, so the due count is their sum with nothing of the duration lost. -/
theorem laterCount_toNat (c : Count) (duration : Half) : laterCount c duration.toNat = c + duration.setWidth 32 := by
  rw [laterCount, BitVec.ofNat_toNat]

section
variable {s : State} {x : Settle}

theorem runSettle_of_ne_zero (h : x.duration ≠ 0) :
    runSettle s x = s.withSettle (some { x with due := some (s.timebase.count + x.duration.setWidth 32) }) := by
  rw [runSettle, if_neg h, laterCount_toNat]

theorem runSettle_of_eq_zero (h : x.duration = 0) : runSettle s x = changePosture s x.candidate := by
  rw [runSettle, if_pos h]

/-! ### The settle machine at an edge of MOTION (R76) -/

theorem settleOnMotion_of_steady {asserted : Bool} (h : s.posture.settle = none) : settleOnMotion s asserted = s := by
  simp only [settleOnMotion, h]

theorem settleOnMotion_of_strict {asserted : Bool} (h : s.posture.settle = some x) (strict : x.kind = .strict) :
    settleOnMotion s asserted = s := by
  simp only [settleOnMotion, h, strict, reduceCtorEq, if_false]

theorem settleOnMotion_true_of_loose (h : s.posture.settle = some x) (loose : x.kind = .loose) :
    settleOnMotion s true = s.withSettle (some { x with due := none }) := by
  simp only [settleOnMotion, h, loose, if_true]

theorem settleOnMotion_false_of_held (h : s.posture.settle = some x) (loose : x.kind = .loose) (held : x.due = none) :
    settleOnMotion s false = runSettle s x := by
  simp only [settleOnMotion, h, loose, held, Option.isNone_none, if_true, Bool.false_eq_true, if_false]

end

/-- A change of MOTION's level is an edge: it is kept, and then the settle machine acts on it. -/
theorem exec_motionEdge_of_ne {s : State} {asserted : Bool} (h : s.posture.levels[motionIndex] ≠ asserted) :
    exec (.motionEdge asserted) s = .next (settleOnMotion (keepEdge s motionIndex asserted) asserted) :=
  if_neg h

/-- Settles O32: the edge is kept without touching the settle, so that the machine acts on the settle it found; each state of the machine is
one equation of `settleOnMotion`. -/
theorem motionHoldsLooseSettle : Obligations.MotionHoldsLooseSettle := by
  intro s asserted edge kept
  rw [exec_motionEdge_of_ne edge]
  refine ⟨fun steady => ?steady, fun x settling strict => ?strict, fun x settling loose asserts => ?hold,
    fun x settling loose deasserts held lasting => ?restart, fun x settling loose deasserts held instant => ?complete⟩
  case steady => rw [settleOnMotion_of_steady (by rwa [keepEdge_settle])]; rfl
  case strict => rw [settleOnMotion_of_strict (by rwa [keepEdge_settle]) strict]; rfl
  case hold =>
    subst asserts
    rw [settleOnMotion_true_of_loose (by rwa [keepEdge_settle]) loose]
    rfl
  case restart =>
    subst deasserts
    rw [settleOnMotion_false_of_held (by rwa [keepEdge_settle]) loose held, runSettle_of_ne_zero lasting]
    rfl
  case complete =>
    subst deasserts
    rw [settleOnMotion_false_of_held (by rwa [keepEdge_settle]) loose held, runSettle_of_eq_zero instant]
    rfl

end Sys2Proof.Machine
end

section
/-! SUPPORT. The expiry of the scan timer: the timer rescheduled (R103) and the expiry offered to the sequencer (R107), with the statement of
what each state of the sequencer makes of it. -/

namespace Sys2Proof.Machine

/-- The next expiry falls by the period just taken up, not by the one it replaces (R103). -/
theorem rescheduleScan_eq (t : ScanTimer) :
    rescheduleScan t = ⟨t.staged.getD t.period, none, t.next.later (scanMicros (t.staged.getD t.period))⟩ := rfl

/-! ### The expiry offered (R107) -/

@[simp] theorem offerScan_idle : offerScan .idle = .starting 2 := rfl

@[simp] theorem offerScan_lone_spot (due : Moment) : offerScan (.spot due none) = .spot due (some (.starting 2)) := rfl

/-- An expiry that finds the sequencer neither IDLE nor in a lone spot check finds a scan running or suspended, and is lost. -/
theorem offerScan_of_scan_present {q : Sequencer} (notIdle : q ≠ .idle) (notLone : ∀ due, q ≠ .spot due none) : offerScan q = q := by
  cases q with
  | idle => exact absurd rfl notIdle
  | starting left => rfl
  | converting c due => rfl
  | gap c left => rfl
  | spot due resume =>
    cases resume with
    | none => exact absurd rfl (notLone due)
    | some x => rfl

/-- When the Timebase stands at the next expiry, the timer is rescheduled and the expiry offered; the rest of the part has no share in it. -/
theorem exec_scanTimerExpiry_of_due {s : State} (due : s.measure.scan.next = s.timebase) :
    exec .scanTimerExpiry s = .next (s.withMeasure { s.measure with
      scan := rescheduleScan s.measure.scan
      sequencer := offerScan s.measure.sequencer }) :=
  if_pos due

/-- Settles O37: the expiry writes the rescheduled timer and the sequencer that the offer leaves, so each row of R107's table is one equation of
`offerScan`, and the rows that lose the expiry share one. -/
theorem scanTimerOffersScan : Obligations.ScanTimerOffersScan := by
  intro s atExpiry period becomes
  have offered : ∀ q : Sequencer, offerScan s.measure.sequencer = q → becomes q := by
    rintro q rfl
    have expiry := exec_scanTimerExpiry_of_due atExpiry
    rw [rescheduleScan_eq] at expiry
    exact expiry
  have lost : ∀ q : Sequencer, s.measure.sequencer = q → q ≠ .idle → (∀ due, q ≠ .spot due none) → becomes q := by
    rintro q rfl notIdle notLone
    exact offered _ (offerScan_of_scan_present notIdle notLone)
  refine ⟨fun idle => ?idle, fun left starting => ?starting, fun c due converting => ?converting, fun c left gap => ?gap,
    fun due lone => ?lone, fun due x suspended => ?suspended⟩
  case idle => exact offered _ (by rw [idle, offerScan_idle])
  case starting => exact lost _ starting nofun nofun
  case converting => exact lost _ converting nofun nofun
  case gap => exact lost _ gap nofun nofun
  case lone => exact offered _ (by rw [lone, offerScan_lone_spot])
  case suspended => exact lost _ suspended nofun nofun

end Sys2Proof.Machine
end

section
/-! SUPPORT. The conditions of an evaluation (R122, R123), the pressure step row by row and the saturation run row by row, with the statements
that they follow R123 and R126. -/

namespace Sys2Proof.Machine

/-! ### Above, below and the holds (R122, R123) -/

section
variable {now : Count} {limit : Option Half} {v : Nat} {g : Governed}

/-- An UNBOUNDED limit is exceeded by no value. -/
theorem isAbove_iff : isAbove limit v = true ↔ ∃ l, limit = some l ∧ l.toNat < v := by
  cases limit with
  | none => simp [isAbove]
  | some l => simp [isAbove]

/-- Every value is below an UNBOUNDED limit, whatever the hysteresis. -/
theorem isBelow_iff {hysteresis : Half} :
    isBelow limit hysteresis v = true ↔ ∀ l, limit = some l → v + hysteresis.toNat < l.toNat := by
  cases limit with
  | none => simp [isBelow]
  | some l => simp [isBelow]

theorem not_isAbove_of_isBelow {hysteresis : Half} (below : isBelow limit hysteresis v = true) : ¬ isAbove limit v = true := by
  intro above
  obtain ⟨l, bounded, exceeded⟩ := isAbove_iff.mp above
  have under := isBelow_iff.mp below l bounded
  omega

theorem holdElapsed_iff {last : Option Count} {hold : Half} :
    holdElapsed last hold now = true ↔ ∀ t, last = some t → hold.toNat ≤ elapsed t now := by
  cases last with
  | none => simp [holdElapsed]
  | some t => simp [holdElapsed]

/-- No hold exceeds 65535 ms, so removing a time of last change that is 65536 ms old lets no step through that was held back (R123). -/
@[simp] theorem holdElapsed_freshStep (last : Option Count) (hold : Half) :
    holdElapsed (freshStep now last) hold now = holdElapsed last hold now := by
  cases last with
  | none => rfl
  | some t =>
    by_cases old : 65536 ≤ elapsed t now
    · have short : hold.toNat < 65536 := hold.isLt
      have held : hold.toNat ≤ elapsed t now := by omega
      simp [freshStep, holdElapsed, old, held]
    · simp [freshStep, old]

/-! ### The pressure step (R123) -/

/-- An evaluation steps the pressure up: the first row of R123's table, the one row that rises. -/
def Rises (now : Count) (limit : Option Half) (v : Nat) (g : Governed) : Prop :=
  isAbove limit v = true ∧ g.pressure.val < 15 ∧ holdElapsed g.lastStep g.riseHold now = true

/-- An evaluation steps the pressure down: the third row of R123's table, the one row that falls. -/
def Falls (now : Count) (limit : Option Half) (v : Nat) (g : Governed) : Prop :=
  isBelow limit g.hysteresis v = true ∧ 0 < g.pressure.val ∧ holdElapsed g.lastStep g.fallHold now = true

/-- No value is both above and below, so at most one of the two steps is due (R122). -/
theorem Falls.not_rises (falls : Falls now limit v g) : ¬ Rises now limit v g :=
  fun rises => not_isAbove_of_isBelow falls.1 rises.1

/-- The step tests the holds against the time of last change as aged, which comes to the same as testing them against the time as kept. -/
theorem stepPressure_of_rises (rises : Rises now limit v g) :
    stepPressure now limit v g = { g with pressure := Fin.ofNat 16 (g.pressure.val + 1), lastStep := some now } := by
  rw [Rises, ← holdElapsed_freshStep] at rises
  exact if_pos rises

theorem stepPressure_of_falls (falls : Falls now limit v g) :
    stepPressure now limit v g = { g with pressure := Fin.ofNat 16 (g.pressure.val - 1), lastStep := some now } := by
  have notRises := falls.not_rises
  rw [Rises, ← holdElapsed_freshStep] at notRises
  rw [Falls, ← holdElapsed_freshStep] at falls
  exact (if_neg notRises).trans (if_pos falls)

/-- An evaluation that makes no step still ages the time of last change. -/
theorem stepPressure_of_no_step (notRises : ¬ Rises now limit v g) (notFalls : ¬ Falls now limit v g) :
    stepPressure now limit v g = { g with lastStep := freshStep now g.lastStep } := by
  rw [Rises, ← holdElapsed_freshStep] at notRises
  rw [Falls, ← holdElapsed_freshStep] at notFalls
  exact (if_neg notRises).trans (if_neg notFalls)

theorem stepPressure_pressure_of_rises (rises : Rises now limit v g) :
    (stepPressure now limit v g).pressure.val = g.pressure.val + 1 := by
  rw [stepPressure_of_rises rises]
  obtain ⟨-, room, -⟩ := rises
  exact Nat.mod_eq_of_lt (by omega)

theorem stepPressure_pressure_of_falls (falls : Falls now limit v g) :
    (stepPressure now limit v g).pressure.val + 1 = g.pressure.val := by
  rw [stepPressure_of_falls falls]
  obtain ⟨-, room, -⟩ := falls
  have inRange : (g.pressure.val - 1) % 16 = g.pressure.val - 1 := Nat.mod_eq_of_lt (by omega)
  calc (Fin.ofNat 16 (g.pressure.val - 1)).val + 1
    _ = g.pressure.val - 1 + 1 := congrArg (· + 1) inRange
    _ = g.pressure.val := Nat.sub_add_cancel room

/-- A step writes the pressure and the time of last change, and an evaluation without one at most that time. -/
theorem stepPressure_eq :
    stepPressure now limit v g =
      { g with pressure := (stepPressure now limit v g).pressure, lastStep := (stepPressure now limit v g).lastStep } := by
  by_cases rises : Rises now limit v g
  · rw [stepPressure_of_rises rises]
  · by_cases falls : Falls now limit v g
    · rw [stepPressure_of_falls falls]
    · rw [stepPressure_of_no_step rises falls]

/-! ### The saturation run (R126) -/

/-- The run is kept: the first column of R126's table. -/
def RunHolds (limit : Option Half) (v : Nat) (g : Governed) : Prop := g.pressure = 15 ∧ isAbove limit v = true

theorem judgeRun_begins (held : RunHolds limit v g) (absent : g.runStart = none) :
    judgeRun now limit v g = { g with runStart := some now } := by
  rw [RunHolds] at held
  rw [judgeRun, if_pos held, absent]

/-- The test of R126 for a run that continues: a saturation time of 0 makes no flag. -/
theorem judgeRun_continues {start : Count} (held : RunHolds limit v g) (present : g.runStart = some start) :
    judgeRun now limit v g =
      if g.saturationTime ≠ 0 ∧ saturationMillis g ≤ elapsed start now then { g with saturated := true } else g := by
  rw [RunHolds] at held
  rw [judgeRun, if_pos held, present]

theorem judgeRun_nothing (notHeld : ¬ RunHolds limit v g) (absent : g.runStart = none) : judgeRun now limit v g = g := by
  rw [RunHolds] at notHeld
  rw [judgeRun, if_neg notHeld, absent]

theorem judgeRun_ends (notHeld : ¬ RunHolds limit v g) (present : g.runStart ≠ none) :
    judgeRun now limit v g = { g with runStart := none, saturated := false } := by
  obtain ⟨start, started⟩ := Option.ne_none_iff_exists'.mp present
  rw [RunHolds] at notHeld
  rw [judgeRun, if_neg notHeld, started]

end

/-- Settles O40: the three outcomes of a step are one equation each, and the conditions of R123 say which of them it is. -/
theorem pressureSteps : Obligations.PressureSteps := by
  intro now limit v g above below since stepped
  have rises_iff : Rises now limit v g ↔ above ∧ g.pressure.val < 15 ∧ since g.riseHold := by
    rw [Rises, isAbove_iff, holdElapsed_iff]; rfl
  have falls_iff : Falls now limit v g ↔ below ∧ 0 < g.pressure.val ∧ since g.fallHold := by
    rw [Falls, isBelow_iff, holdElapsed_iff]; rfl
  refine ⟨stepPressure_eq, fun exceeded room held => ?rise, fun under room held => ?fall, fun notRises notFalls => ?none⟩
  case rise =>
    have rises : Rises now limit v g := rises_iff.mpr ⟨exceeded, room, held⟩
    exact ⟨stepPressure_pressure_of_rises rises, congrArg Governed.lastStep (stepPressure_of_rises rises)⟩
  case fall =>
    have falls : Falls now limit v g := falls_iff.mpr ⟨under, room, held⟩
    exact ⟨stepPressure_pressure_of_falls falls, congrArg Governed.lastStep (stepPressure_of_falls falls)⟩
  case none =>
    have aged : stepped = { g with lastStep := freshStep now g.lastStep } :=
      stepPressure_of_no_step (mt rises_iff.mp notRises) (mt falls_iff.mp notFalls)
    rw [aged]
    exact ⟨rfl, rfl⟩

/-- Settles O41: each row of R126's table is one equation of `judgeRun`; the row of a run that continues splits on the saturation time. -/
theorem saturationRuns : Obligations.SaturationRuns := by
  intro now limit v g held judged
  have held_iff : RunHolds limit v g ↔ held := by rw [RunHolds, isAbove_iff]
  refine ⟨fun holds absent => ?begins, fun start holds present timed lasted => ?saturates,
    fun start holds present early => ?continues, fun ended absent => ?nothing, fun ended present => ?ends⟩
  case begins => exact judgeRun_begins (held_iff.mpr holds) absent
  case saturates => exact (judgeRun_continues (held_iff.mpr holds) present).trans (if_pos ⟨timed, lasted⟩)
  case continues =>
    refine (judgeRun_continues (held_iff.mpr holds) present).trans (if_neg ?_)
    rintro ⟨timed, lasted⟩
    exact early.elim timed lasted.not_gt
  case nothing => exact judgeRun_nothing (mt held_iff.mp ended) absent
  case ends => exact judgeRun_ends (mt held_iff.mp ended) present

end Sys2Proof.Machine
end

section
/-! SUPPORT. The two ends of the stop handshake: what an edge of STOP_ACK writes by the state it finds (R156), the expiry of the stop timer
(R157), and the pins by the trip state (R153), with the statement that puts them together. -/

namespace Sys2Proof.Machine

/-! ### The pins (R153) -/

theorem stopReq_iff {t : TripUnit} : stopReq t = true ↔ t.state = .stopping ∨ t.state = .stopped ∨ t.state = .off := by
  cases h : t.state <;> simp [stopReq, h]

theorem offReq_iff {t : TripUnit} : offReq t = true ↔ t.state = .off := beq_iff_eq

/-- OFF_REQ never stands alone: STOP_REQ is still asserted in OFF. -/
theorem stopReq_of_offReq {t : TripUnit} (h : offReq t = true) : stopReq t = true :=
  stopReq_iff.mpr (.inr (.inr (offReq_iff.mp h)))

/-! ### An edge of STOP_ACK (R156) -/

theorem acknowledge_true_of_stopping {t : TripUnit} (stopping : t.state = .stopping) :
    acknowledge true t = { t with stopAck := true, state := .stopped, stopTimer := none } :=
  if_pos ⟨rfl, stopping⟩

/-- A withdrawal in any state, and an assertion outside STOPPING, are kept and do nothing else. -/
theorem acknowledge_keeps_level {asserted : Bool} {t : TripUnit} (h : asserted = false ∨ t.state ≠ .stopping) :
    acknowledge asserted t = { t with stopAck := asserted } := by
  refine if_neg ?_
  rintro ⟨asserts, stopping⟩
  cases h with
  | inl withdrawn => exact Bool.false_ne_true (withdrawn.symm.trans asserts)
  | inr elsewhere => exact elsewhere stopping

theorem exec_stopAckEdge_of_ne {s : State} {asserted : Bool} (edge : s.trip.stopAck ≠ asserted) :
    exec (.stopAckEdge asserted) s = .next (s.withTrip (acknowledge asserted s.trip)) :=
  if_neg edge

/-! ### The expiry of the stop timer (R157) -/

theorem exec_stopTimerExpiry_of_due {s : State} (stopping : s.trip.state = .stopping) (due : s.trip.stopTimer = some s.timebase.count) :
    exec .stopTimerExpiry s = .next (s.withTrip { s.trip with state := .off, stopTimer := none }) :=
  if_pos ⟨due, stopping⟩

/-- Settles O50: an edge writes the Trip Unit by the two cases of `acknowledge`, and the expiry reaches OFF, where both pins are asserted. -/
theorem stopHandshakeEnds : Obligations.StopHandshakeEnds := by
  refine ⟨fun s asserted edge => ⟨fun asserts stopping => ?acknowledged, fun noAnswer => ?kept⟩, fun s stopping due => ?expired⟩
  case acknowledged =>
    subst asserts
    rw [exec_stopAckEdge_of_ne edge, acknowledge_true_of_stopping stopping]
    rfl
  case kept =>
    rw [exec_stopAckEdge_of_ne edge, acknowledge_keeps_level noAnswer]
    rfl
  case expired =>
    have off : offReq { s.trip with state := .off, stopTimer := none } = true := offReq_iff.mpr rfl
    exact ⟨_, exec_stopTimerExpiry_of_due stopping due, rfl, off, stopReq_of_offReq off⟩

end Sys2Proof.Machine
end

section
/-! SUPPORT. ALERT read off the notice states (R174): which of their fields it depends on, and that judging the trip sources writes no enable
set, with the statement that responses leave ALERT and that full reset ends with it deasserted. -/

namespace Sys2Proof.Machine

/-! ### What ALERT reads (R174) -/

theorem alert_iff {l : LinkPort} : alert l = true ↔ ∃ (r : Requester) (k : Fin 6),
    l.notices[r].pending.getLsbD k.val = true ∧ l.notices[r].enable.getLsbD k.val = true := by
  have shares : alert l = true ↔ ∃ r : Requester, l.notices[r].pending &&& l.notices[r].enable ≠ 0 := by
    simp only [alert, List.any_eq_true, Vector.mem_toList_iff, Vector.mem_iff_getElem, bne_iff_ne]
    constructor
    · rintro ⟨_, ⟨i, hi, rfl⟩, share⟩
      exact ⟨⟨i, hi⟩, share⟩
    · rintro ⟨r, share⟩
      exact ⟨_, ⟨r.val, r.isLt, rfl⟩, share⟩
  simp only [shares, and_ne_zero_iff]

/-- ALERT depends on the pending and the enable sets alone. -/
theorem alert_congr {l m : LinkPort} (pending : ∀ r : Requester, l.notices[r].pending = m.notices[r].pending)
    (enable : ∀ r : Requester, l.notices[r].enable = m.notices[r].enable) : alert l = alert m := by
  rw [Bool.eq_iff_iff]
  simp only [alert_iff, pending, enable]

/-- A requester that has enabled no kind is not alerted, whatever is pending. -/
theorem alert_eq_false_of_enable {l : LinkPort} (empty : ∀ r : Requester, l.notices[r].enable = 0) : alert l = false := by
  rw [Bool.eq_false_iff, ne_eq, alert_iff]
  rintro ⟨r, k, -, enabled⟩
  rw [empty r] at enabled
  simp at enabled

/-! ### A response (R173) -/

theorem responded_notices (s : State) (r : Requester) (dropped : Bool) (status : Status) (payload : List Byte) :
    (responded s r dropped status payload).link.notices
      = s.link.notices.set r { s.link.notices[r] with reported := s.link.notices[r].pending } := rfl

/-- A field that the new notice state of one requester keeps is kept for every requester. -/
theorem field_set_eq {β : Type} (field : NoticeState → β) {v : Vector NoticeState 8} {r : Requester} {n : NoticeState}
    (kept : field n = field v[r]) (q : Requester) : field (v.set r n)[q] = field v[q] := by
  by_cases same : r = q
  · subst same
    simpa using kept
  · simp [Fin.val_ne_of_ne same]

theorem alert_responded (s : State) (r : Requester) (dropped : Bool) (status : Status) (payload : List Byte) :
    alert (responded s r dropped status payload).link = alert s.link := by
  apply alert_congr <;> rw [responded_notices]
  · exact field_set_eq NoticeState.pending rfl
  · exact field_set_eq NoticeState.enable rfl

/-! ### Full reset (R148, R164) -/

/-- A latching posts TRIP, which makes a kind pending and enables none. -/
theorem judgeSources_enable (s : State) (which : SourceSet) (r : Requester) :
    (judgeSources s which).link.notices[r].enable = s.link.notices[r].enable := by
  obtain ⟨latching, changing, still⟩ := judgeSources_cases s which
  by_cases new : judgedActive s which &&& ~~~s.trip.active &&& ~~~s.trip.latched = 0
  · by_cases same : judgedActive s which = s.trip.active
    · rw [still new same]
    · rw [changing new same, handOver_link, State.withTrip_link]
  · rw [latching new, postAll_notices]
    rfl

theorem resetBlocks_enable (p : PinLevels) (s : State) (r : Requester) : (resetBlocks p s).link.notices[r].enable = 0 := by
  simp [resetBlocks, Default.link, Default.notices]

/-- Settles O15: a response writes no pending and no enable set, and full reset ends with every enable set empty, whether or not OVERTEMP
has posted TRIP in it. -/
theorem alertFollowsNotices : Obligations.AlertFollowsNotices := by
  refine ⟨fun _ => alert_iff, alert_responded, fun p s t reset => ?_⟩
  obtain rfl : judgeSources (resetBlocks p s) (sourceBit overtempSource) = t := Host.Outcome.next.inj reset
  exact alert_eq_false_of_enable fun r => (judgeSources_enable _ _ r).trans (resetBlocks_enable p s r)

end Sys2Proof.Machine
end

section
/-! SUPPORT. What a row can do, said once: when its event is at hand (log 3), what a frame leaves, what the claim of a command leaves, and with
these the states in which a row and a step can end. Every proof about all rows or all steps is a case analysis of these. -/

namespace Sys2Proof.Machine

/-! ### The claims of the commands (R169) -/

/-- The claim of a command of an issuer on a state: what its row does before its response is placed. -/
def claimOf (issuer : Requester) (c : Command) (s : State) : State × Reply :=
  match c with
  | .place f => placeClaim issuer f s
  | .change f => changeClaim issuer f s
  | .renew f => renewClaim issuer f s
  | .retire f => retireClaim issuer f s
  | .sweep owner subject => sweepClaim issuer owner subject s
  | .lookup f => lookupClaim f s
  | .readSlot slot => readSlotClaim slot s
  | .list start => listClaim start s
  | .readResolved subject => readResolvedClaim subject s
  | .readPosture => (s, ⟨.ok, posturePayload s.timebase.count s.posture⟩)
  | .readMeasure => (s, ⟨.ok, measurePayload s.measure⟩)
  | .readGovernor => readGovernorClaim s
  | .readTrip => (s, ⟨.ok, tripPayload s.trip⟩)
  | .readNotices => (s, ⟨.ok, noticesPayload s.link.notices[issuer]⟩)
  | .setNoticeEnable kinds => setNoticeEnableClaim issuer kinds s
  | .clearNotices kinds => clearNoticesClaim issuer kinds s
  | .readProfile => (s, ⟨.ok, profilePayload s.profile⟩)
  | .readSettings block index => readSettingsClaim block index s
  | .resume => resumeClaim s
  | .softReset => softResetClaim s
  | .setScan period => setScanClaim period s
  | .setSense subject gain shift => setSenseClaim subject gain shift s
  | .setCommit subject exponent => setCommitClaim subject exponent s
  | .setGovern f => setGovernClaim f s
  | .setRoute subject actuator entry => setRouteClaim subject actuator entry s
  | .setOutput f => setOutputClaim f s
  | .setTrip packed => setTripClaim packed s
  | .setPosture flags strict loose => setPostureClaim flags strict loose s

/-- The row of the command in execution is the answer of its claim. -/
theorem exec_completionRow {s : State} {e : Execution} (h : s.link.execution = some e) :
    exec (completionRow e.command) s = answer (claimOf e.requester e.command s) := by
  cases hc : e.command with
  | place f => exact exec_place h f hc
  | change f => exact exec_change h f hc
  | renew f => exact exec_renew h f hc
  | retire f => exact exec_retire h f hc
  | sweep owner subject => exact exec_sweep h owner subject hc
  | lookup f => exact exec_lookup h f hc
  | readSlot slot => exact exec_readSlot h slot hc
  | list start => exact exec_list h start hc
  | readResolved subject => exact exec_readResolved h subject hc
  | readPosture => exact exec_readPosture h hc
  | readMeasure => exact exec_readMeasure h hc
  | readGovernor => exact exec_readGovernor h hc
  | readTrip => exact exec_readTrip h hc
  | readNotices => exact exec_readNotices h hc
  | setNoticeEnable kinds => exact exec_setNoticeEnable h kinds hc
  | clearNotices kinds => exact exec_clearNotices h kinds hc
  | readProfile => exact exec_readProfile h hc
  | readSettings block index => exact exec_readSettings h block index hc
  | resume => exact exec_resume h hc
  | softReset => exact exec_softReset h hc
  | setScan period => exact exec_setScan h period hc
  | setSense subject gain shift => exact exec_setSense h subject gain shift hc
  | setCommit subject exponent => exact exec_setCommit h subject exponent hc
  | setGovern f => exact exec_setGovern h f hc
  | setRoute subject actuator entry => exact exec_setRoute h subject actuator entry hc
  | setOutput f => exact exec_setOutput h f hc
  | setTrip packed => exact exec_setTrip h packed hc
  | setPosture flags strict loose => exact exec_setPosture h flags strict loose hc

/-- The command in execution, from what the rows read of it. -/
theorem taken_eq_some {s : State} {r : Requester} {c : Command} (h : s.taken = some (r, c)) :
    ∃ e, s.link.execution = some e ∧ e.command = c := by
  obtain ⟨e, he, heq⟩ := Option.map_eq_some_iff.1 h
  exact ⟨e, he, (Prod.mk.inj heq).2⟩

/-! ### The event of a row (log 3) -/

/-- The part has the event of this row at this moment: the timer or step is due, the input changes, the command is in execution. A full reset
and a frame come from outside at any moment. -/
def AtHand (s : State) : Instr → Prop
  | .fullReset _ | .commandFrame _ | .frameDuringExecution _ | .fetchFrame _ => True
  | .commitTimerExpiry sub => s.commitTimers[sub].nextExpiry = s.timebase.count
  | .leaseTick => s.leaseClock = s.timebase.count
  | .postureInputEdge input level => s.posture.levels[inputIndex input] ≠ level
  | .motionEdge asserted => s.posture.levels[motionIndex] ≠ asserted
  | .adpPresEdge present => s.posture.levels[adapterIndex] ≠ present
  | .settleTimerExpiry => ∃ x, s.posture.settle = some x ∧ x.due = some s.timebase.count
  | .scanTimerExpiry => s.measure.scan.next = s.timebase
  | .startStepEnd => s.measure.sequencer = .starting 0
  | .gapEnd => ∃ c, s.measure.sequencer = .gap c 0
  | .conversionCompletion _ => ∃ c, s.measure.sequencer = .converting c s.timebase
  | .spotCompletion _ => ∃ resume, s.measure.sequencer = .spot s.timebase resume
  | .overtempEdge asserted => s.trip.overtemp ≠ asserted
  | .stopAckEdge asserted => s.trip.stopAck ≠ asserted
  | .stopTimerExpiry => s.trip.stopTimer = some s.timebase.count ∧ s.trip.state = .stopping
  | .periodEnd ix => s.outputs[ix].nextEnd = s.timebase
  | i => ∃ e, s.link.execution = some e ∧ completionRow e.command = i

theorem atHand_completionRow {s : State} {c : Command} :
    AtHand s (completionRow c) ↔ ∃ e, s.link.execution = some e ∧ completionRow e.command = completionRow c := by
  cases c <;> exact Iff.rfl

/-- A row whose event is not at hand changes nothing (log 3). -/
theorem exec_of_not_atHand {s : State} {i : Instr} (absent : ¬ AtHand s i) : exec i s = .next s := by
  have notTaken : ∀ {r : Requester} {c : Command}, s.taken = some (r, c) → ¬ AtHand s i → completionRow c ≠ i := by
    rintro r c taken absent rfl
    obtain ⟨e, he, rfl⟩ := taken_eq_some taken
    exact absent (atHand_completionRow.2 ⟨e, he, rfl⟩)
  cases i
  case fullReset | commandFrame | frameDuringExecution | fetchFrame => exact absurd trivial absent
  case commitTimerExpiry | leaseTick | scanTimerExpiry | stopTimerExpiry | periodEnd => exact if_neg absent
  case postureInputEdge | motionEdge | adpPresEdge | overtempEdge | stopAckEdge => exact if_pos (not_not.1 absent)
  case settleTimerExpiry =>
    simp only [exec, execSettleTimerExpiry]
    split
    · next x settling => exact if_neg fun due => absent ⟨x, settling, due⟩
    · rfl
  case startStepEnd =>
    simp only [exec, execStartStepEnd]
    split
    · next starting => exact absurd starting absent
    · rfl
  case gapEnd =>
    simp only [exec, execGapEnd]
    split
    · next c gap => exact absurd ⟨c, gap⟩ absent
    · rfl
  case conversionCompletion =>
    simp only [exec, execConversionCompletion]
    split
    · next c due converting => exact if_neg fun (now : due = s.timebase) => absent ⟨c, now ▸ converting⟩
    · rfl
  case spotCompletion =>
    simp only [exec, execSpotCompletion]
    split
    · next due resume spot => exact if_neg fun (now : due = s.timebase) => absent ⟨resume, now ▸ spot⟩
    · rfl
  all_goals
    simp only [exec, execPlace, execChange, execRenew, execRetire, execSweep, execLookup, execReadSlot, execList, execReadResolved,
      execReadPosture, execReadMeasure, execReadGovernor, execReadTrip, execReadNotices, execSetNoticeEnable, execClearNotices,
      execReadProfile, execReadSettings, execResume, execSoftReset, execSetScan, execSetSense, execSetCommit, execSetGovern,
      execSetRoute, execSetOutput, execSetTrip, execSetPosture]
    split
    · rename_i taken
      exact absurd rfl (notTaken taken absent)
    · rfl

/-! ### What a claim leaves -/

/-- The states that the claim of a command can leave: the state itself, where it reads or refuses, or what the accepted command writes, with the
checks that it has passed. -/
inductive ClaimEffect (s : State) (issuer : Requester) : Command → State → Prop
  | unaltered (c : Command) : ClaimEffect s issuer c s
  | place (f : PlaceFields) (r : Record) (i : SlotIx) : ¬ (f.cls = 1 ∧ issuer ≠ 0) → placedRecord issuer f = some r →
      findKey s.table ⟨issuer, r.subject, r.tag⟩ = none → ¬ (issuer ≠ 0 ∧ quota ≤ owned s.table issuer) →
      lowestFree s.table = some i →
      ClaimEffect s issuer (.place f) (recompute (s.withTable (s.table.set i (some r))) r.subject)
  | change (f : ChangeFields) (k : Key) (mask : Mask) (expected : Option Byte) (i : SlotIx) (r : Record) :
      maskOf f.mask = some mask → boundInRange k.subject f.bound = true →
      checkKeyed s.table issuer k expected (fun _ => false) = .ok (i, r) →
      ClaimEffect s issuer (.change f)
        (if differsInForce r (changed f.bound mask r) then recompute (writeRecord s issuer i (changed f.bound mask r)) r.subject
         else writeRecord s issuer i (changed f.bound mask r))
  | renew (f : RenewFields) (k : Key) (expected : Option Byte) (i : SlotIx) (r : Record) :
      f.lease.toNat ≤ maxLease → checkKeyed s.table issuer k expected (renewOutOfRange f.lease) = .ok (i, r) →
      ClaimEffect s issuer (.renew f) (writeRecord s issuer i (renewed f.lease r))
  | retire (f : RetireFields) (k : Key) (expected : Option Byte) (i : SlotIx) (r : Record) :
      checkKeyed s.table issuer k expected (fun _ => false) = .ok (i, r) →
      ClaimEffect s issuer (.retire f) (recompute (writeRecord s issuer i (retired r)) r.subject)
  | sweep (o x : Byte) (owner : Requester) (subject : Option Subject) (notices : List (Requester × Notice)) :
      ClaimEffect s issuer (.sweep o x)
        (recomputeList
          (postList (s.withTable (rewrite s.table fun r => some (if sweeps owner subject r then retired r else r))) notices)
          (subjectsOf (slotsWhere s.table (sweeps owner subject))))
  | setNoticeEnable (kinds : Byte) (set : NoticeSet) :
      ClaimEffect s issuer (.setNoticeEnable kinds)
        (s.withNotices (s.link.notices.set issuer { s.link.notices[issuer] with enable := set }))
  | clearNotices (kinds : Byte) (set : NoticeSet) :
      ClaimEffect s issuer (.clearNotices kinds)
        (s.withNotices (s.link.notices.set issuer (cleared set s.link.notices[issuer])))
  | resume : s.trip.state = .tripped ∨ s.trip.state = .stopped → s.trip.latched &&& s.trip.active = 0 →
      ClaimEffect s issuer .resume (handOver (s.withTrip { s.trip with state := .armed, latched := 0 }))
  | softReset : ClaimEffect s issuer .softReset
      (postAll ((recomputeAll (s.withTable (rewrite s.table softened))).withNotices (Vector.replicate 8 Default.notices)) .reset)
  | setScan (period : Byte) (staged : Option ScanPeriod) :
      ClaimEffect s issuer (.setScan period)
        (s.withMeasure { s.measure with scan := { s.measure.scan with staged := staged } })
  | setSense (subject gain shift : Byte) (m : Measured) (k : Fin 13) :
      ClaimEffect s issuer (.setSense subject gain shift)
        (s.withMeasure { s.measure with gains := s.measure.gains.set m gain, shifts := s.measure.shifts.set m k })
  | setCommit (subject exponent : Byte) (sub : Subject) (n : Fin 8) :
      ClaimEffect s issuer (.setCommit subject exponent)
        (s.withCommitTimers (s.commitTimers.set sub (stageExponent n s.commitTimers[sub])))
  | setGovern (f : GovernFields) (m : Measured) : f.riseHold ≠ 0 → f.fallHold ≠ 0 →
      ClaimEffect s issuer (.setGovern f) (
        let g := governedBy f s.governor.subjects[m]
        let u := s.withGovernor { s.governor with subjects := s.governor.subjects.set m g }
        if g.saturated ≠ s.governor.subjects[m].saturated then handSaturated u else u)
  | setRoute (subject actuator entry : Byte) (m : Measured) (a : OutputIx) (route : Option Level) :
      ClaimEffect s issuer (.setRoute subject actuator entry) (recomputeTarget
        (s.withGovernor { s.governor with routes := s.governor.routes.set m (s.governor.routes[m].set a route) }) a)
  | setOutput (f : OutputFields) (x : OutputSettings) : outputSettingsOf f = some x →
      ClaimEffect s issuer (.setOutput f) (s.withOutputs (s.outputs.set x.output (outputSet s.trip x s.outputs[x.output])))
  | setTrip (packed : BitVec 128) (x : TripSettings) : tripSettingsOf packed = some x →
      ClaimEffect s issuer (.setTrip packed) (judgeSources
        (s.withTrip { s.trip with enable := x.enable, stopClass := x.stopClass, levels := x.levels, stopTimeout := x.stopTimeout })
        (BitVec.allOnes 11))
  | setPosture (flags : Byte) (strict loose : Half) :
      settleTimeAccepted (flags.getLsbD 0) 2550 10 strict = true → settleTimeAccepted (flags.getLsbD 1) 25500 100 loose = true →
      ClaimEffect s issuer (.setPosture flags strict loose) (s.withPosture { s.posture with
        strictTime := if flags.getLsbD 0 then strict else s.posture.strictTime
        looseTime := if flags.getLsbD 1 then loose else s.posture.looseTime })

theorem placeClaim_effect (s : State) (issuer : Requester) (f : PlaceFields) :
    ClaimEffect s issuer (.place f) (placeClaim issuer f s).1 := by
  unfold placeClaim
  split
  · exact .unaltered _
  · next mayPlace =>
    split
    · exact .unaltered _
    · next r asked =>
      split
      · exact .unaltered _
      · next newKey =>
        split
        · exact .unaltered _
        · next underQuota =>
          split
          · exact .unaltered _
          · next i free => exact .place f r i mayPlace asked newKey underQuota free

theorem changeClaim_effect (s : State) (issuer : Requester) (f : ChangeFields) :
    ClaimEffect s issuer (.change f) (changeClaim issuer f s).1 := by
  unfold changeClaim
  split
  · next k mask expected _ read _ =>
    split
    · next inRange =>
      split
      · exact .unaltered _
      · next i r passed => exact .change f k mask expected i r read inRange passed
    · exact .unaltered _
  · exact .unaltered _

theorem renewClaim_effect (s : State) (issuer : Requester) (f : RenewFields) :
    ClaimEffect s issuer (.renew f) (renewClaim issuer f s).1 := by
  unfold renewClaim
  split
  · next k expected _ _ =>
    split
    · next inRange =>
      split
      · exact .unaltered _
      · next i r passed => exact .renew f k expected i r inRange.1 passed
    · exact .unaltered _
  · exact .unaltered _

theorem retireClaim_effect (s : State) (issuer : Requester) (f : RetireFields) :
    ClaimEffect s issuer (.retire f) (retireClaim issuer f s).1 := by
  unfold retireClaim
  split
  · next k expected _ _ =>
    split
    · exact .unaltered _
    · next i r passed => exact .retire f k expected i r passed
  · exact .unaltered _

theorem sweepClaim_effect (s : State) (issuer : Requester) (o x : Byte) :
    ClaimEffect s issuer (.sweep o x) (sweepClaim issuer o x s).1 := by
  unfold sweepClaim
  split
  · next owner subject _ _ =>
    split
    · exact .unaltered _
    · dsimp only
      split
      · exact .sweep o x owner subject _
      · exact .sweep o x owner subject []
  · exact .unaltered _

theorem noticeClaims_effect (s : State) (issuer : Requester) (kinds : Byte) :
    ClaimEffect s issuer (.setNoticeEnable kinds) (setNoticeEnableClaim issuer kinds s).1
    ∧ ClaimEffect s issuer (.clearNotices kinds) (clearNoticesClaim issuer kinds s).1 := by
  unfold setNoticeEnableClaim clearNoticesClaim
  cases noticeSetOf kinds with
  | none => exact ⟨.unaltered _, .unaltered _⟩
  | some set => exact ⟨.setNoticeEnable kinds set, .clearNotices kinds set⟩

theorem resumeClaim_effect (s : State) (issuer : Requester) : ClaimEffect s issuer .resume (resumeClaim s).1 := by
  unfold resumeClaim
  cases state : s.trip.state with
  | armed | stopping | off => exact .unaltered _
  | tripped | stopped =>
    dsimp only
    split
    · exact .unaltered _
    · next clear => exact .resume (by simp [state]) (not_not.1 clear)

theorem setScanClaim_effect (s : State) (issuer : Requester) (period : Byte) :
    ClaimEffect s issuer (.setScan period) (setScanClaim period s).1 := by
  unfold setScanClaim
  split
  · exact .unaltered _
  · exact .setScan period _

theorem setSenseClaim_effect (s : State) (issuer : Requester) (subject gain shift : Byte) :
    ClaimEffect s issuer (.setSense subject gain shift) (setSenseClaim subject gain shift s).1 := by
  unfold setSenseClaim
  split
  · exact .setSense subject gain shift _ _
  · exact .unaltered _

theorem setCommitClaim_effect (s : State) (issuer : Requester) (subject exponent : Byte) :
    ClaimEffect s issuer (.setCommit subject exponent) (setCommitClaim subject exponent s).1 := by
  unfold setCommitClaim
  split
  · exact .setCommit subject exponent _ _
  · exact .unaltered _

theorem setGovernClaim_effect (s : State) (issuer : Requester) (f : GovernFields) :
    ClaimEffect s issuer (.setGovern f) (setGovernClaim f s).1 := by
  unfold setGovernClaim
  split
  · exact .unaltered _
  · next m _ =>
    split
    · exact .unaltered _
    · next holds =>
      rw [not_or] at holds
      exact .setGovern f m holds.1 holds.2

theorem setRouteClaim_effect (s : State) (issuer : Requester) (subject actuator entry : Byte) :
    ClaimEffect s issuer (.setRoute subject actuator entry) (setRouteClaim subject actuator entry s).1 := by
  unfold setRouteClaim
  split
  · exact .setRoute subject actuator entry _ _ _
  · exact .unaltered _

theorem setOutputClaim_effect (s : State) (issuer : Requester) (f : OutputFields) :
    ClaimEffect s issuer (.setOutput f) (setOutputClaim f s).1 := by
  unfold setOutputClaim
  split
  · exact .unaltered _
  · next x read => exact .setOutput f x read

theorem setTripClaim_effect (s : State) (issuer : Requester) (packed : BitVec 128) :
    ClaimEffect s issuer (.setTrip packed) (setTripClaim packed s).1 := by
  unfold setTripClaim
  split
  · exact .unaltered _
  · next x read => exact .setTrip packed x read

theorem setPostureClaim_effect (s : State) (issuer : Requester) (flags : Byte) (strict loose : Half) :
    ClaimEffect s issuer (.setPosture flags strict loose) (setPostureClaim flags strict loose s).1 := by
  unfold setPostureClaim
  dsimp only
  split
  · next accepted => exact .setPosture flags strict loose accepted.2.1 accepted.2.2
  · exact .unaltered _

/-- The commands that read: their claims leave the state. -/
theorem readClaims_state (s : State) (f : KeyFields) (b index : Byte) :
    (lookupClaim f s).1 = s ∧ (readSlotClaim b s).1 = s ∧ (listClaim b s).1 = s ∧ (readResolvedClaim b s).1 = s
    ∧ (readSettingsClaim b index s).1 = s := by
  unfold lookupClaim readSlotClaim listClaim readResolvedClaim readSettingsClaim
  refine ⟨?_, ?_, ?_, ?_, ?_⟩
  · split
    · rfl
    · split <;> rfl
  all_goals split <;> rfl

/-- The claim of every command leaves one of these states. -/
theorem claimOf_effect (s : State) (issuer : Requester) (c : Command) : ClaimEffect s issuer c (claimOf issuer c s).1 := by
  have reads := readClaims_state s
  cases c with
  | place f => exact placeClaim_effect s issuer f
  | change f => exact changeClaim_effect s issuer f
  | renew f => exact renewClaim_effect s issuer f
  | retire f => exact retireClaim_effect s issuer f
  | sweep owner subject => exact sweepClaim_effect s issuer owner subject
  | lookup f => rw [claimOf, (reads f 0 0).1]; exact .unaltered _
  | readSlot slot => rw [claimOf, (reads ⟨0, 0, 0⟩ slot 0).2.1]; exact .unaltered _
  | list start => rw [claimOf, (reads ⟨0, 0, 0⟩ start 0).2.2.1]; exact .unaltered _
  | readResolved subject => rw [claimOf, (reads ⟨0, 0, 0⟩ subject 0).2.2.2.1]; exact .unaltered _
  | readSettings block index => rw [claimOf, (reads ⟨0, 0, 0⟩ block index).2.2.2.2]; exact .unaltered _
  | readPosture | readMeasure | readGovernor | readTrip | readNotices | readProfile => exact .unaltered _
  | setNoticeEnable kinds => exact (noticeClaims_effect s issuer kinds).1
  | clearNotices kinds => exact (noticeClaims_effect s issuer kinds).2
  | resume => exact resumeClaim_effect s issuer
  | softReset => exact .softReset
  | setScan period => exact setScanClaim_effect s issuer period
  | setSense subject gain shift => exact setSenseClaim_effect s issuer subject gain shift
  | setCommit subject exponent => exact setCommitClaim_effect s issuer subject exponent
  | setGovern f => exact setGovernClaim_effect s issuer f
  | setRoute subject actuator entry => exact setRouteClaim_effect s issuer subject actuator entry
  | setOutput f => exact setOutputClaim_effect s issuer f
  | setTrip packed => exact setTripClaim_effect s issuer packed
  | setPosture flags strict loose => exact setPostureClaim_effect s issuer flags strict loose

/-! ### What a frame leaves (R166, R168, R170, R171) -/

/-- The states that a frame can leave: SDO, the slot's fetched flag and the open frame moved; the dropped flag set; an error response placed; a
command taken. -/
inductive FrameEffect (s : State) : State → Prop
  | shifted (l : LinkPort) : l.execution = s.link.execution → l.notices = s.link.notices → FrameEffect s (s.withLink l)
  | dropped (e : Execution) (sdo : List Bool) : s.link.execution = some e →
      FrameEffect s (s.withLink { s.link with execution := some { e with dropped := true }, sdo := sdo })
  | refused (sdo : List Bool) (r : Requester) (reply : Reply) :
      FrameEffect s (placeResponse (s.withSdo sdo) r false reply)
  | taken (r : Requester) (c : Command) (sdo : List Bool) :
      FrameEffect s (s.withLink { s.link with execution := some ⟨r, c, false, 0⟩, sdo := sdo })

theorem takeFrame_effect (s : State) (sdo : List Bool) (header : Byte) (rest : List Byte) :
    FrameEffect s (takeFrame (s.withSdo sdo) header rest) := by
  unfold takeFrame
  split
  · exact .refused sdo _ _
  · exact .taken _ _ sdo

theorem endFrame_effect {s : State} {onOther : State → Byte → List Byte → State}
    (other : ∀ sdo header rest, FrameEffect s (onOther (s.withSdo sdo) header rest)) (sdi : List Bool) :
    FrameEffect s (endFrame s sdi onOther) := by
  unfold endFrame
  split
  · exact .shifted _ rfl rfl
  · split
    · exact .shifted s.link rfl rfl
    · split
      · exact .shifted _ rfl rfl
      · dsimp only
        split
        · next executing =>
          obtain ⟨e, he⟩ := Option.isSome_iff_exists.1 executing
          unfold dropFrame
          rw [he]
          exact .dropped e _ he
        · exact other _ _ _

/-! ### What a row and a step leave -/

/-- The three rows of frames. -/
def IsFrameRow (i : Instr) : Prop := ∃ sdi, i = .commandFrame sdi ∨ i = .frameDuringExecution sdi ∨ i = .fetchFrame sdi

/-- The states that a row can leave whose event is at hand. -/
inductive RowEffect (s : State) : Instr → State → Prop
  | fullReset (p : PinLevels) : RowEffect s (.fullReset p) (judgeSources (resetBlocks p s) (sourceBit overtempSource))
  | frame (i : Instr) (t : State) : IsFrameRow i → FrameEffect s t → RowEffect s i t
  | command (e : Execution) (u : State) (reply : Reply) : s.link.execution = some e → ClaimEffect s e.requester e.command u →
      RowEffect s (completionRow e.command) (respond (u, reply))
  | commitTimerExpiry (sub : Subject) :
      RowEffect s (.commitTimerExpiry sub)
        ((commit s sub).withCommitTimers ((commit s sub).commitTimers.set sub (reschedule (commit s sub).commitTimers[sub])))
  | leaseTick : s.leaseClock = s.timebase.count →
      RowEffect s .leaseTick ((tickLeases s).withLeaseClock (laterCount (tickLeases s).leaseClock leaseInterval))
  | postureInputEdge (input : PostureInput) (level : Bool) : s.posture.levels[inputIndex input] ≠ level →
      RowEffect s (.postureInputEdge input level)
        (settleAfter (keepEdge s (inputIndex input) level) (rawPosture s.posture.levels))
  | motionEdge (asserted : Bool) : s.posture.levels[motionIndex] ≠ asserted →
      RowEffect s (.motionEdge asserted) (settleOnMotion (keepEdge s motionIndex asserted) asserted)
  | adapterRises : RowEffect s (.adpPresEdge true) (keepEdge s adapterIndex true)
  | adapterFalls : RowEffect s (.adpPresEdge false)
      ((keepEdge s adapterIndex false).withSequencer (requestSpot s.timebase s.measure.sequencer))
  | settleTimerExpiry (x : Settle) : s.posture.settle = some x → RowEffect s .settleTimerExpiry (changePosture s x.candidate)
  | scanTimerExpiry : RowEffect s .scanTimerExpiry (s.withMeasure { s.measure with
      scan := rescheduleScan s.measure.scan
      sequencer := offerScan s.measure.sequencer })
  | startStepEnd : RowEffect s .startStepEnd (s.withSequencer (beginConversion s.timebase 0))
  | gapEnd (c : Channel) : s.measure.sequencer = .gap c 0 → RowEffect s .gapEnd (s.withSequencer (beginConversion s.timebase c))
  | conversionCompletion (code : BitVec 10) (c : Channel) : s.measure.sequencer = .converting c s.timebase →
      RowEffect s (.conversionCompletion code) ((scanCompletion s c code).withSequencer (afterConversion c))
  | spotCompletion (code : BitVec 10) (resume : Option Resume) : s.measure.sequencer = .spot s.timebase resume →
      RowEffect s (.spotCompletion code) ((completion s spotChannel code).withSequencer (resumeAt s.timebase resume))
  | overtempEdge (asserted : Bool) :
      RowEffect s (.overtempEdge asserted) (judgeSources (s.withTrip { s.trip with overtemp := asserted }) (sourceBit overtempSource))
  | stopAckEdge (asserted : Bool) : RowEffect s (.stopAckEdge asserted) (s.withTrip (acknowledge asserted s.trip))
  | stopTimerExpiry : s.trip.state = .stopping →
      RowEffect s .stopTimerExpiry (s.withTrip { s.trip with state := .off, stopTimer := none })
  | periodEnd (ix : OutputIx) : RowEffect s (.periodEnd ix) (takePeriodEnd s ix)

/-- A row whose event is at hand ends in one of these states. -/
theorem exec_of_atHand {s : State} {i : Instr} (present : AtHand s i) : ∃ t, exec i s = .next t ∧ RowEffect s i t := by
  have frame : ∀ {sdi : List Bool} {i : Instr}, IsFrameRow i → RowEffect s i (endFrame s sdi takeFrame) :=
    fun isFrame => .frame _ _ isFrame (endFrame_effect (takeFrame_effect s) _)
  cases i
  case fullReset p => exact ⟨_, rfl, .fullReset p⟩
  case commandFrame sdi => exact ⟨_, rfl, frame ⟨sdi, .inl rfl⟩⟩
  case fetchFrame sdi => exact ⟨_, rfl, frame ⟨sdi, .inr (.inr rfl)⟩⟩
  case frameDuringExecution sdi =>
    exact ⟨_, rfl, .frame _ _ ⟨sdi, .inr (.inl rfl)⟩
      (endFrame_effect (fun sdo _ _ => .shifted { s.link with sdo := sdo } rfl rfl) sdi)⟩
  case commitTimerExpiry sub => exact ⟨_, if_pos present, .commitTimerExpiry sub⟩
  case leaseTick => exact ⟨_, if_pos present, .leaseTick present⟩
  case postureInputEdge input level => exact ⟨_, if_neg present, .postureInputEdge input level present⟩
  case motionEdge asserted => exact ⟨_, if_neg present, .motionEdge asserted present⟩
  case adpPresEdge level =>
    cases level with
    | true => exact ⟨_, if_neg present, .adapterRises⟩
    | false => exact ⟨_, if_neg present, .adapterFalls⟩
  case settleTimerExpiry =>
    obtain ⟨x, settling, due⟩ := present
    refine ⟨_, ?_, .settleTimerExpiry x settling⟩
    simp only [exec, execSettleTimerExpiry, settling, due, if_true]
  case scanTimerExpiry => exact ⟨_, if_pos present, .scanTimerExpiry⟩
  case startStepEnd =>
    refine ⟨_, ?_, .startStepEnd⟩
    simp only [exec, execStartStepEnd, show s.measure.sequencer = .starting 0 from present]
  case gapEnd =>
    obtain ⟨c, gap⟩ := present
    refine ⟨_, ?_, .gapEnd c gap⟩
    simp only [exec, execGapEnd, gap]
  case conversionCompletion code =>
    obtain ⟨c, converting⟩ := present
    refine ⟨_, ?_, .conversionCompletion code c converting⟩
    simp only [exec, execConversionCompletion, converting, if_true]
  case spotCompletion code =>
    obtain ⟨resume, spot⟩ := present
    refine ⟨_, ?_, .spotCompletion code resume spot⟩
    simp only [exec, execSpotCompletion, spot, if_true]
  case overtempEdge asserted => exact ⟨_, if_neg present, .overtempEdge asserted⟩
  case stopAckEdge asserted => exact ⟨_, if_neg present, .stopAckEdge asserted⟩
  case stopTimerExpiry => exact ⟨_, if_pos present, .stopTimerExpiry present.2⟩
  case periodEnd ix => exact ⟨_, if_pos present, .periodEnd ix⟩
  all_goals
    obtain ⟨e, taken, row⟩ := present
    rw [← row]
    exact ⟨_, exec_completionRow taken, .command e _ _ taken (claimOf_effect s e.requester e.command)⟩

/-- A row changes nothing, its event not being at hand, or ends in one of the states above. -/
theorem exec_effect (i : Instr) (s : State) :
    (¬ AtHand s i ∧ exec i s = .next s) ∨ (AtHand s i ∧ ∃ t, exec i s = .next t ∧ RowEffect s i t) := by
  by_cases present : AtHand s i
  · exact .inr ⟨present, exec_of_atHand present⟩
  · exact .inl ⟨present, exec_of_not_atHand present⟩

/-- A step is a tick on an empty queue, or takes the row at its front: without effect where its event is not at hand. -/
theorem step_effect {s t : State} (h : step s = .next t) :
    (s.pending = [] ∧ t = tick s)
    ∨ ∃ i rest, s.pending = i :: rest
      ∧ ((¬ AtHand s i ∧ t = s.withPending rest) ∨ (AtHand s i ∧ RowEffect (s.withPending rest) i t)) := by
  unfold step at h
  split at h
  · next empty => exact .inl ⟨empty, (Host.Outcome.next.inj h).symm⟩
  · next i rest queue =>
    have same : AtHand (s.withPending rest) i ↔ AtHand s i := by cases i <;> exact Iff.rfl
    refine .inr ⟨i, rest, queue, ?_⟩
    rcases exec_effect i (s.withPending rest) with ⟨absent, ends⟩ | ⟨present, u, ends, effect⟩
    · exact .inl ⟨mt same.2 absent, Host.Outcome.next.inj (h.symm.trans ends)⟩
    · cases Host.Outcome.next.inj (h.symm.trans ends)
      exact .inr ⟨same.1 present, effect⟩

/-- What the queue has no part in, the tick keeps and every row keeps, every step keeps. -/
theorem step_keeps {P : State → Prop} (queue : ∀ s q, P s → P (s.withPending q)) (ticks : ∀ s, P s → P (tick s))
    (rows : ∀ s i t, RowEffect s i t → P s → P t) {s t : State} (h : step s = .next t) (holds : P s) : P t := by
  rcases step_effect h with ⟨-, rfl⟩ | ⟨i, rest, -, ⟨-, rfl⟩ | ⟨-, effect⟩⟩
  · exact ticks s holds
  · exact queue s rest holds
  · exact rows _ i t effect (queue s rest holds)

end Sys2Proof.Machine
end

section
/-! SUPPORT. What the operations of single rows leave alone, field by field, as Laws/Ops.lean has it for the shared operations. -/

namespace Sys2Proof.Machine

variable (s : State)

/-! ### Responses (R168, R169) -/

@[simp] theorem placeResponse_timebase (r : Requester) (d : Bool) (x : Reply) : (placeResponse s r d x).timebase = s.timebase := rfl
@[simp] theorem placeResponse_table (r : Requester) (d : Bool) (x : Reply) : (placeResponse s r d x).table = s.table := rfl
@[simp] theorem placeResponse_commitTimers (r : Requester) (d : Bool) (x : Reply) : (placeResponse s r d x).commitTimers = s.commitTimers := rfl
@[simp] theorem placeResponse_leaseClock (r : Requester) (d : Bool) (x : Reply) : (placeResponse s r d x).leaseClock = s.leaseClock := rfl
@[simp] theorem placeResponse_posture (r : Requester) (d : Bool) (x : Reply) : (placeResponse s r d x).posture = s.posture := rfl
@[simp] theorem placeResponse_resolver (r : Requester) (d : Bool) (x : Reply) : (placeResponse s r d x).resolver = s.resolver := rfl
@[simp] theorem placeResponse_measure (r : Requester) (d : Bool) (x : Reply) : (placeResponse s r d x).measure = s.measure := rfl
@[simp] theorem placeResponse_governor (r : Requester) (d : Bool) (x : Reply) : (placeResponse s r d x).governor = s.governor := rfl
@[simp] theorem placeResponse_outputs (r : Requester) (d : Bool) (x : Reply) : (placeResponse s r d x).outputs = s.outputs := rfl
@[simp] theorem placeResponse_trip (r : Requester) (d : Bool) (x : Reply) : (placeResponse s r d x).trip = s.trip := rfl
@[simp] theorem placeResponse_profile (r : Requester) (d : Bool) (x : Reply) : (placeResponse s r d x).profile = s.profile := rfl
@[simp] theorem placeResponse_fresh (r : Requester) (d : Bool) (x : Reply) : (placeResponse s r d x).fresh = s.fresh := rfl
@[simp] theorem placeResponse_pending (r : Requester) (d : Bool) (x : Reply) : (placeResponse s r d x).pending = s.pending := rfl
@[simp] theorem placeResponse_link_execution (r : Requester) (d : Bool) (x : Reply) : (placeResponse s r d x).link.execution = s.link.execution := rfl
@[simp] theorem placeResponse_link_sdo (r : Requester) (d : Bool) (x : Reply) : (placeResponse s r d x).link.sdo = s.link.sdo := rfl
@[simp] theorem placeResponse_link_voidFrame (r : Requester) (d : Bool) (x : Reply) : (placeResponse s r d x).link.voidFrame = s.link.voidFrame := rfl

/-! ### A record written back (R28) -/

@[simp] theorem writeRecord_timebase (r : Requester) (i : SlotIx) (x : Record) : (writeRecord s r i x).timebase = s.timebase := by
  unfold writeRecord; dsimp only; split <;> rfl
@[simp] theorem writeRecord_commitTimers (r : Requester) (i : SlotIx) (x : Record) : (writeRecord s r i x).commitTimers = s.commitTimers := by
  unfold writeRecord; dsimp only; split <;> rfl
@[simp] theorem writeRecord_leaseClock (r : Requester) (i : SlotIx) (x : Record) : (writeRecord s r i x).leaseClock = s.leaseClock := by
  unfold writeRecord; dsimp only; split <;> rfl
@[simp] theorem writeRecord_posture (r : Requester) (i : SlotIx) (x : Record) : (writeRecord s r i x).posture = s.posture := by
  unfold writeRecord; dsimp only; split <;> rfl
@[simp] theorem writeRecord_resolver (r : Requester) (i : SlotIx) (x : Record) : (writeRecord s r i x).resolver = s.resolver := by
  unfold writeRecord; dsimp only; split <;> rfl
@[simp] theorem writeRecord_measure (r : Requester) (i : SlotIx) (x : Record) : (writeRecord s r i x).measure = s.measure := by
  unfold writeRecord; dsimp only; split <;> rfl
@[simp] theorem writeRecord_governor (r : Requester) (i : SlotIx) (x : Record) : (writeRecord s r i x).governor = s.governor := by
  unfold writeRecord; dsimp only; split <;> rfl
@[simp] theorem writeRecord_outputs (r : Requester) (i : SlotIx) (x : Record) : (writeRecord s r i x).outputs = s.outputs := by
  unfold writeRecord; dsimp only; split <;> rfl
@[simp] theorem writeRecord_trip (r : Requester) (i : SlotIx) (x : Record) : (writeRecord s r i x).trip = s.trip := by
  unfold writeRecord; dsimp only; split <;> rfl
@[simp] theorem writeRecord_profile (r : Requester) (i : SlotIx) (x : Record) : (writeRecord s r i x).profile = s.profile := by
  unfold writeRecord; dsimp only; split <;> rfl
@[simp] theorem writeRecord_fresh (r : Requester) (i : SlotIx) (x : Record) : (writeRecord s r i x).fresh = s.fresh := by
  unfold writeRecord; dsimp only; split <;> rfl
@[simp] theorem writeRecord_pending (r : Requester) (i : SlotIx) (x : Record) : (writeRecord s r i x).pending = s.pending := by
  unfold writeRecord; dsimp only; split <;> rfl
@[simp] theorem writeRecord_link_execution (r : Requester) (i : SlotIx) (x : Record) : (writeRecord s r i x).link.execution = s.link.execution := by
  unfold writeRecord; dsimp only; split <;> rfl

@[simp] theorem writeRecord_table (r : Requester) (i : SlotIx) (x : Record) :
    (writeRecord s r i x).table = s.table.set i (some x) := by
  unfold writeRecord; dsimp only; split <;> rfl

/-! ### Recomputes and the link -/

@[simp] theorem State.withSdo_eq (bits : List Bool) : s.withSdo bits = s.withLink { s.link with sdo := bits } := rfl

@[simp] theorem recomputeTarget_fanCap (a : OutputIx) : (recomputeTarget s a).fanCap = s.fanCap := rfl

/-! ### The commit of a subject (R58) -/

@[simp] theorem commit_timebase (sub : Subject) : (commit s sub).timebase = s.timebase := by
  unfold commit; dsimp only; split <;> simp
@[simp] theorem commit_commitTimers (sub : Subject) : (commit s sub).commitTimers = s.commitTimers := by
  unfold commit; dsimp only; split <;> simp
@[simp] theorem commit_leaseClock (sub : Subject) : (commit s sub).leaseClock = s.leaseClock := by
  unfold commit; dsimp only; split <;> simp
@[simp] theorem commit_posture (sub : Subject) : (commit s sub).posture = s.posture := by
  unfold commit; dsimp only; split <;> simp
@[simp] theorem commit_measure (sub : Subject) : (commit s sub).measure = s.measure := by
  unfold commit; dsimp only; split <;> simp
@[simp] theorem commit_outputs (sub : Subject) : (commit s sub).outputs = s.outputs := by
  unfold commit; dsimp only; split <;> simp
@[simp] theorem commit_trip (sub : Subject) : (commit s sub).trip = s.trip := by
  unfold commit; dsimp only; split <;> simp
@[simp] theorem commit_profile (sub : Subject) : (commit s sub).profile = s.profile := by
  unfold commit; dsimp only; split <;> simp
@[simp] theorem commit_fresh (sub : Subject) : (commit s sub).fresh = s.fresh := by
  unfold commit; dsimp only; split <;> simp
@[simp] theorem commit_pending (sub : Subject) : (commit s sub).pending = s.pending := by
  unfold commit; dsimp only; split <;> simp
@[simp] theorem commit_governor_subjects (sub : Subject) : (commit s sub).governor.subjects = s.governor.subjects := by
  unfold commit; dsimp only; split <;> simp
@[simp] theorem commit_governor_routes (sub : Subject) : (commit s sub).governor.routes = s.governor.routes := by
  unfold commit; dsimp only; split <;> simp
@[simp] theorem commit_link_execution (sub : Subject) : (commit s sub).link.execution = s.link.execution := by
  unfold commit; dsimp only; split <;> simp

@[simp] theorem commit_table (sub : Subject) : (commit s sub).table = rewrite s.table (committed sub) := by
  unfold commit; dsimp only; split <;> simp

/-! ### A tick of the lease clock (R62) -/

@[simp] theorem tickLeases_timebase : (tickLeases s).timebase = s.timebase := by unfold tickLeases; simp
@[simp] theorem tickLeases_commitTimers : (tickLeases s).commitTimers = s.commitTimers := by unfold tickLeases; simp
@[simp] theorem tickLeases_leaseClock : (tickLeases s).leaseClock = s.leaseClock := by unfold tickLeases; simp
@[simp] theorem tickLeases_posture : (tickLeases s).posture = s.posture := by unfold tickLeases; simp
@[simp] theorem tickLeases_measure : (tickLeases s).measure = s.measure := by unfold tickLeases; simp
@[simp] theorem tickLeases_outputs : (tickLeases s).outputs = s.outputs := by unfold tickLeases; simp
@[simp] theorem tickLeases_trip : (tickLeases s).trip = s.trip := by unfold tickLeases; simp
@[simp] theorem tickLeases_profile : (tickLeases s).profile = s.profile := by unfold tickLeases; simp
@[simp] theorem tickLeases_fresh : (tickLeases s).fresh = s.fresh := by unfold tickLeases; simp
@[simp] theorem tickLeases_pending : (tickLeases s).pending = s.pending := by unfold tickLeases; simp
@[simp] theorem tickLeases_governor_subjects : (tickLeases s).governor.subjects = s.governor.subjects := by unfold tickLeases; simp
@[simp] theorem tickLeases_governor_routes : (tickLeases s).governor.routes = s.governor.routes := by unfold tickLeases; simp
@[simp] theorem tickLeases_link_execution : (tickLeases s).link.execution = s.link.execution := by unfold tickLeases; simp

@[simp] theorem tickLeases_table : (tickLeases s).table = rewrite s.table fun r => some (ticked r) := by
  unfold tickLeases; simp

/-! ### An edge kept (R70, R71) -/

@[simp] theorem keepEdge_table (i : Fin 5) (b : Bool) : (keepEdge s i b).table = s.table := rfl
@[simp] theorem keepEdge_commitTimers (i : Fin 5) (b : Bool) : (keepEdge s i b).commitTimers = s.commitTimers := rfl
@[simp] theorem keepEdge_leaseClock (i : Fin 5) (b : Bool) : (keepEdge s i b).leaseClock = s.leaseClock := rfl
@[simp] theorem keepEdge_resolver (i : Fin 5) (b : Bool) : (keepEdge s i b).resolver = s.resolver := rfl
@[simp] theorem keepEdge_measure (i : Fin 5) (b : Bool) : (keepEdge s i b).measure = s.measure := rfl
@[simp] theorem keepEdge_governor (i : Fin 5) (b : Bool) : (keepEdge s i b).governor = s.governor := rfl
@[simp] theorem keepEdge_outputs (i : Fin 5) (b : Bool) : (keepEdge s i b).outputs = s.outputs := rfl
@[simp] theorem keepEdge_trip (i : Fin 5) (b : Bool) : (keepEdge s i b).trip = s.trip := rfl
@[simp] theorem keepEdge_link (i : Fin 5) (b : Bool) : (keepEdge s i b).link = s.link := rfl
@[simp] theorem keepEdge_profile (i : Fin 5) (b : Bool) : (keepEdge s i b).profile = s.profile := rfl
@[simp] theorem keepEdge_fresh (i : Fin 5) (b : Bool) : (keepEdge s i b).fresh = s.fresh := rfl
@[simp] theorem keepEdge_pending (i : Fin 5) (b : Bool) : (keepEdge s i b).pending = s.pending := rfl

/-! ### The settle machine at an edge of MOTION (R76) -/

@[simp] theorem settleOnMotion_timebase (b : Bool) : (settleOnMotion s b).timebase = s.timebase := by
  unfold settleOnMotion; (repeat' split) <;> simp
@[simp] theorem settleOnMotion_table (b : Bool) : (settleOnMotion s b).table = s.table := by
  unfold settleOnMotion; (repeat' split) <;> simp
@[simp] theorem settleOnMotion_commitTimers (b : Bool) : (settleOnMotion s b).commitTimers = s.commitTimers := by
  unfold settleOnMotion; (repeat' split) <;> simp
@[simp] theorem settleOnMotion_leaseClock (b : Bool) : (settleOnMotion s b).leaseClock = s.leaseClock := by
  unfold settleOnMotion; (repeat' split) <;> simp
@[simp] theorem settleOnMotion_measure (b : Bool) : (settleOnMotion s b).measure = s.measure := by
  unfold settleOnMotion; (repeat' split) <;> simp
@[simp] theorem settleOnMotion_outputs (b : Bool) : (settleOnMotion s b).outputs = s.outputs := by
  unfold settleOnMotion; (repeat' split) <;> simp
@[simp] theorem settleOnMotion_trip (b : Bool) : (settleOnMotion s b).trip = s.trip := by
  unfold settleOnMotion; (repeat' split) <;> simp
@[simp] theorem settleOnMotion_profile (b : Bool) : (settleOnMotion s b).profile = s.profile := by
  unfold settleOnMotion; (repeat' split) <;> simp
@[simp] theorem settleOnMotion_fresh (b : Bool) : (settleOnMotion s b).fresh = s.fresh := by
  unfold settleOnMotion; (repeat' split) <;> simp
@[simp] theorem settleOnMotion_pending (b : Bool) : (settleOnMotion s b).pending = s.pending := by
  unfold settleOnMotion; (repeat' split) <;> simp
@[simp] theorem settleOnMotion_governor_subjects (b : Bool) : (settleOnMotion s b).governor.subjects = s.governor.subjects := by
  unfold settleOnMotion; (repeat' split) <;> simp
@[simp] theorem settleOnMotion_governor_routes (b : Bool) : (settleOnMotion s b).governor.routes = s.governor.routes := by
  unfold settleOnMotion; (repeat' split) <;> simp
@[simp] theorem settleOnMotion_link_execution (b : Bool) : (settleOnMotion s b).link.execution = s.link.execution := by
  unfold settleOnMotion; (repeat' split) <;> simp

/-! ### The tick (R52) -/

@[simp] theorem tick_timebase : (tick s).timebase = s.timebase.later 1 := rfl
@[simp] theorem tick_table : (tick s).table = s.table := rfl
@[simp] theorem tick_commitTimers : (tick s).commitTimers = s.commitTimers := rfl
@[simp] theorem tick_leaseClock : (tick s).leaseClock = s.leaseClock := rfl
@[simp] theorem tick_posture : (tick s).posture = s.posture := rfl
@[simp] theorem tick_resolver : (tick s).resolver = s.resolver := rfl
@[simp] theorem tick_measure : (tick s).measure = { s.measure with sequencer := passMicro s.measure.sequencer } := rfl
@[simp] theorem tick_governor : (tick s).governor = s.governor := rfl
@[simp] theorem tick_outputs : (tick s).outputs = s.outputs := rfl
@[simp] theorem tick_trip : (tick s).trip = s.trip := rfl
@[simp] theorem tick_link : (tick s).link =
    { s.link with execution := s.link.execution.map fun e => { e with age := e.age + 1 } } := rfl
@[simp] theorem tick_profile : (tick s).profile = s.profile := rfl

/-- The queue after a tick on an empty queue: the events due, each once, in some order (log 2). -/
theorem tick_pending_perm {s : State} (empty : s.pending = []) : (tick s).pending.Perm (dueEvents (advance s)) := by
  have queue : (tick s).pending = s.pending ++ arrange (dueEvents (advance s)).length (advance s).fresh (dueEvents (advance s)) := rfl
  rw [queue, empty, List.nil_append]
  exact arrange_perm _ _ _

/-! ### The queue (log 1) -/

theorem ClaimEffect.pending {s u : State} {issuer : Requester} {c : Command} (h : ClaimEffect s issuer c u) : u.pending = s.pending := by
  cases h with
  | change => split <;> simp
  | setGovern => dsimp only; split <;> simp
  | _ => simp

theorem FrameEffect.pending {s t : State} (h : FrameEffect s t) : t.pending = s.pending := by
  cases h <;> rfl

theorem RowEffect.pending {s t : State} {i : Instr} (h : RowEffect s i t) : t.pending = s.pending := by
  cases h with
  | fullReset => simp [resetBlocks]
  | frame _ _ _ effect => exact effect.pending
  | command e u reply _ effect => simp [effect.pending]
  | _ => simp

/-- Settles O1: the step is the match on the queue, whose rest is a write of the queue. -/
theorem stepTakesFront : Obligations.StepTakesFront := by
  intro c s rest queue
  unfold step
  rw [queue]
  rfl

/-- Settles O3: a row changes nothing or has one of the effects above, and no effect writes the queue. -/
theorem everyRowGoesOn : Obligations.EveryRowGoesOn := by
  intro c s
  rcases exec_effect c s with ⟨-, same⟩ | ⟨-, t, next, effect⟩
  · exact ⟨s, same, rfl⟩
  · exact ⟨t, next, effect.pending⟩

/-- Settles O4: each clause says in its own words that the row's event is not at hand. -/
theorem eventsNotAtHandChangeNothing : Obligations.EventsNotAtHandChangeNothing := by
  intro s
  refine ⟨fun sub notDue => ?_, fun notDue => ?_, fun notDue => ?_, fun notDue => ?_, fun notDue => ?_, fun notDue => ?_,
    fun code notDue => ?_, fun code notDue => ?_, fun notDue => ?_, fun ix notDue => ?_, fun input => ?_, ?_, ?_, ?_, ?_,
    fun c notTaken => ?_⟩ <;> apply exec_of_not_atHand
  · exact notDue
  · exact notDue
  · rintro ⟨x, settling, due⟩; exact notDue x settling due
  · exact notDue
  · exact notDue
  · rintro ⟨c, gap⟩; exact notDue c gap
  · rintro ⟨c, converting⟩; exact notDue c converting
  · rintro ⟨resume, spot⟩; exact notDue resume spot
  · rintro ⟨due, -⟩; exact notDue due
  · exact notDue
  · exact not_not.2 rfl
  · exact not_not.2 rfl
  · exact not_not.2 rfl
  · exact not_not.2 rfl
  · exact not_not.2 rfl
  · rw [atHand_completionRow]
    rintro ⟨e, he, same⟩
    exact notTaken e he same

end Sys2Proof.Machine
end

section
/-! SUPPORT. The Limit Table sound at every step (R5 to R15, R19): the keyed checks read backwards, each rewriting of a record keeps it sound, a
table rewritten slot by slot keeps keys and quotas, and the one row that adds a record is held back by DUPLICATE and QUOTA. -/

namespace Sys2Proof.Machine

/-! ### Keys and checks, read backwards (R25, Table 2-3) -/

theorem of_findKey_some {t : Table} {k : Key} {i : SlotIx} {r : Record} (h : findKey t k = some (i, r)) :
    t[i] = some r ∧ r.owner = k.owner ∧ r.subject = k.subject ∧ r.tag = k.tag := by
  obtain ⟨j, -, found⟩ := List.exists_of_findSome?_eq_some h
  cases slot : t[j] with
  | none => rw [slot] at found; cases found
  | some q =>
    simp only [slot] at found
    split at found
    · next named => cases found; exact ⟨slot, named⟩
    · cases found

theorem of_findKey_none {t : Table} {k : Key} (h : findKey t k = none) {j : SlotIx} {q : Record} (slot : t[j] = some q) :
    ¬ (q.owner = k.owner ∧ q.subject = k.subject ∧ q.tag = k.tag) := by
  intro named
  have missed := List.findSome?_eq_none_iff.1 h j (List.mem_finRange j)
  simp only [slot, if_pos named, reduceCtorEq] at missed

/-- A keyed alteration that passes its checks has found a LIVE record that the issuer may alter and its own check admits. -/
theorem of_checkKeyed_ok {t : Table} {issuer : Requester} {k : Key} {expected : Option Byte} {outOfRange : Record → Bool} {i : SlotIx}
    {r : Record} (h : checkKeyed t issuer k expected outOfRange = .ok (i, r)) :
    t[i] = some r ∧ r.subject = k.subject ∧ outOfRange r = false ∧ r.state = .live := by
  unfold checkKeyed at h
  split at h
  · cases h
  · next j q found =>
    split at h
    · cases h
    · split at h
      · cases h
      · next admitted =>
        split at h
        · cases h
        · next notRetiring =>
          split at h
          · cases h
          · cases h
            obtain ⟨slot, -, subject, -⟩ := of_findKey_some found
            refine ⟨slot, subject, Bool.eq_false_iff.2 admitted, ?_⟩
            cases state : r.state with
            | live => rfl
            | retiring => exact absurd state notRetiring

theorem of_lowestFree {t : Table} {i : SlotIx} (h : lowestFree t = some i) : t[i] = none := by
  have free := List.find?_some h
  simpa using free

theorem of_maskOf {b : Byte} {m : Mask} (h : maskOf b = some m) : m ≠ 0 := by
  unfold maskOf at h
  split at h
  · next named =>
    obtain ⟨nonempty, small⟩ := named
    cases h
    intro empty
    apply nonempty
    have low := congrArg BitVec.toNat empty
    rw [BitVec.toNat_setWidth, Nat.mod_eq_of_lt (by omega)] at low
    exact BitVec.eq_of_toNat_eq low
  · cases h

theorem of_boundInRange {sub : Subject} {bound : Half} (h : boundInRange sub bound = true) : sub = fanCapSubject → bound.toNat ≤ 15 := by
  rintro rfl
  simpa [boundInRange] using h

/-! ### Sound records (R4, R8 to R15) -/

/-- A lease a PLACE may name is absent only for requester 0, and is within 1-43200 s and not of an ANCHORED record (R12, R13, R30). -/
theorem of_placeLeaseOf {issuer : Requester} {cls : RecordClass} {flag : Byte} {lease : Half} {named : Option Nat}
    (h : placeLeaseOf issuer cls flag lease = some named) :
    (named = none → issuer = 0) ∧ (∀ n, named = some n → 1 ≤ n ∧ n ≤ 43200 ∧ cls = .ordinary) := by
  unfold placeLeaseOf at h
  split at h
  · split at h
    · next privileged => cases h; exact ⟨fun _ => privileged, nofun⟩
    · cases h
  · split at h
    · next accepted =>
      obtain ⟨-, nonzero, short, ordinary⟩ := accepted
      cases h
      refine ⟨nofun, fun n h => ?_⟩
      cases h
      have : lease.toNat ≠ 0 := fun zero => nonzero (BitVec.eq_of_toNat_eq zero)
      have : maxLease = 43200 := rfl
      exact ⟨by omega, by omega, ordinary⟩
    · cases h

/-- The record of an accepted PLACE is the issuer's and sound. -/
theorem placedRecord_ok {issuer : Requester} {f : PlaceFields} {r : Record} (mayPlace : ¬ (f.cls = 1 ∧ issuer ≠ 0))
    (h : placedRecord issuer f = some r) : r.owner = issuer ∧ RecordOk r := by
  unfold placedRecord at h
  split at h
  · next sub mask cls _ maskRead clsRead =>
    split at h
    · next inRange =>
      split at h
      · next lease leaseRead =>
        cases h
        obtain ⟨absent, present⟩ := of_placeLeaseOf leaseRead
        refine ⟨rfl, of_maskOf maskRead, nofun, nofun, fun n h => ⟨(present n h).1, (present n h).2.1⟩, fun anchored => ?_, fun _ agent => ?_,
          nofun, fun fan => ⟨of_boundInRange inRange fan, nofun⟩⟩
        · cases anchored
          have named : f.cls = 1 := by
            unfold classOf at clsRead
            split at clsRead
            · cases clsRead
            · split at clsRead
              · next one => exact one
              · cases clsRead
          refine ⟨not_not.1 fun agent => mayPlace ⟨named, agent⟩, ?_⟩
          cases lease with
          | none => rfl
          | some n => cases (present n rfl).2.2
        · cases lease with
          | none => exact absurd (absent rfl) agent
          | some n => rfl
      · cases h
    · cases h
  · cases h

/-- A CHANGE writes the four fields of its two parts and the generation, and nothing else of the record. -/
theorem changed_eq (bound : Half) (new : Mask) (r : Record) :
    changed bound new r = { r with
      bound := (changed bound new r).bound, mask := (changed bound new r).mask
      pendingBound := (changed bound new r).pendingBound, pendingMask := (changed bound new r).pendingMask
      generation := (changed bound new r).generation } := by
  have bounds : changeBound bound r = { r with
      bound := (changeBound bound r).bound, pendingBound := (changeBound bound r).pendingBound } := by
    unfold changeBound
    split
    · rfl
    · split <;> rfl
  have masks : ∀ q : Record, changeMask new q = { q with mask := (changeMask new q).mask, pendingMask := (changeMask new q).pendingMask } := by
    intro q
    unfold changeMask
    split <;> rfl
  obtain ⟨g, parts⟩ := changed_eq_parts bound new r
  rw [parts, masks, bounds]

theorem changed_ok {bound : Half} {new : Mask} {r : Record} (ok : RecordOk r) (live : r.state = .live) (nonempty : new ≠ 0)
    (inRange : r.subject = fanCapSubject → bound.toNat ≤ 15) : RecordOk (changed bound new r) := by
  obtain ⟨mask, -, -, lease, anchored, leased, -, fan⟩ := ok
  have parts := changed_eq bound new r
  have sameCls : (changed bound new r).cls = r.cls := by rw [parts]
  have sameOwner : (changed bound new r).owner = r.owner := by rw [parts]
  have sameLease : (changed bound new r).lease = r.lease := by rw [parts]
  have sameState : (changed bound new r).state = r.state := by rw [parts]
  have sameSubject : (changed bound new r).subject = r.subject := by rw [parts]
  refine ⟨?_, fun b => changed_pendingBound_greater, fun m pending => ?_, ?_, ?_, ?_, ?_, fun isFan => ⟨?_, fun b pending => ?_⟩⟩
  · rw [changed_mask]
    split
    · exact nonempty
    · exact fun empty => mask (BitVec.or_eq_zero_iff.1 empty).1
  · obtain ⟨rfl, strict, subset⟩ := changed_pendingMask_strict pending
    refine ⟨nonempty, ?_, strict⟩
    rw [BitVec.and_comm]
    exact (and_eq_right_iff_contains _ _).2 subset
  · rw [sameLease]; exact lease
  · rw [sameCls, sameOwner, sameLease]; exact anchored
  · rw [sameState, sameOwner, sameLease]; exact leased
  · rw [sameState, live]; nofun
  · rw [sameSubject] at isFan
    rw [changed_bound]
    split
    · exact inRange isFan
    · exact (fan isFan).1
  · rw [sameSubject] at isFan
    rw [Option.mem_def, changed_pendingBound] at pending
    split at pending
    · cases pending
    · cases pending; exact inRange isFan

theorem renewed_ok {lease : Half} {r : Record} (ok : RecordOk r) (live : r.state = .live) (short : lease.toNat ≤ maxLease)
    (admitted : renewOutOfRange lease r = false) : RecordOk (renewed lease r) := by
  obtain ⟨mask, bound, pending, -, -, -, -, fan⟩ := ok
  simp only [renewOutOfRange, Bool.or_eq_false_iff, beq_eq_false_iff_ne, Bool.and_eq_false_iff, bne_eq_false_iff_eq] at admitted
  obtain ⟨notAnchored, removal⟩ := admitted
  refine ⟨mask, bound, pending, fun n => ?_, fun anchored => absurd anchored notAnchored, fun _ agent => ?_, fun retiring => ?_, fan⟩
  · intro named
    simp only [renewed, Option.mem_def] at named
    split at named
    · cases named
    · next nonzero =>
      cases named
      have : lease.toNat ≠ 0 := fun zero => nonzero (BitVec.eq_of_toNat_eq zero)
      have : maxLease = 43200 := rfl
      exact ⟨by omega, by omega⟩
  · have nonzero : lease ≠ 0 := by
      rcases removal with h | h
      · exact h
      · exact absurd h agent
    exact (congrArg Option.isSome (if_neg nonzero)).trans rfl
  · rw [show (renewed lease r).state = r.state from rfl, live] at retiring
    cases retiring

theorem retired_ok {r : Record} (ok : RecordOk r) : RecordOk (retired r) := by
  obtain ⟨mask, -, -, -, anchored, -, -, fan⟩ := ok
  exact ⟨mask, nofun, nofun, nofun, fun h => ⟨(anchored h).1, rfl⟩, nofun, fun _ => ⟨rfl, rfl, rfl⟩, fun h => ⟨(fan h).1, nofun⟩⟩

/-- The commit takes pending parts into force: a pending mask is not empty, and a pending bound of FAN_CAP is a level. -/
theorem committed_ok {sub : Subject} {r q : Record} (ok : RecordOk r) (h : committed sub r = some q) : RecordOk q := by
  unfold committed at h
  split at h
  · cases state : r.state with
    | retiring => simp only [state, reduceCtorEq] at h
    | live =>
      simp only [state, Option.some.injEq] at h
      subst h
      obtain ⟨mask, -, pendingMask, lease, anchored, leased, -, fan⟩ := ok
      refine ⟨?_, nofun, nofun, lease, anchored, fun _ => leased state, nofun, fun isFan => ⟨?_, nofun⟩⟩
      · cases pending : r.pendingMask with
        | none => exact mask
        | some m => exact (pendingMask m pending).1
      · obtain ⟨bound, pendingBound⟩ := fan isFan
        cases pending : r.pendingBound with
        | none => exact bound
        | some b => exact pendingBound b pending
  · cases h; exact ok

theorem ticked_ok {r : Record} (ok : RecordOk r) : RecordOk (ticked r) := by
  unfold ticked
  split
  · exact retired_ok ok
  · next notExpired =>
    cases state : r.state with
    | retiring => exact ok
    | live =>
      obtain ⟨mask, bound, pendingMask, lease, anchored, leased, -, fan⟩ := ok
      refine ⟨mask, bound, pendingMask, fun n left => ?_, fun h => ⟨(anchored h).1, ?_⟩, fun _ agent => ?_, nofun, fan⟩
      · obtain ⟨m, before, rfl⟩ := Option.map_eq_some_iff.1 left
        have lasting : ¬ m ≤ 1 := by simpa [expiredByTick, state, before] using notExpired
        have := (lease m before).2
        exact ⟨by omega, by omega⟩
      · simp [(anchored h).2]
      · simpa using leased state agent

theorem softened_ok {r q : Record} (ok : RecordOk r) (h : softened r = some q) : RecordOk q := by
  unfold softened at h
  split at h
  · cases h
  · cases h
    obtain ⟨mask, -, -, lease, anchored, leased, retiring, fan⟩ := ok
    exact ⟨mask, nofun, nofun, lease, anchored, leased, fun h => ⟨(retiring h).1, rfl, rfl⟩, fun h => ⟨(fan h).1, nofun⟩⟩

/-! ### Sound tables (R5, R19) -/

/-- Two records of one key. -/
def SameKey (r q : Record) : Prop := r.owner = q.owner ∧ r.subject = q.subject ∧ r.tag = q.tag

theorem sameKey_changed (bound : Half) (new : Mask) (r : Record) : SameKey (changed bound new r) r := by
  rw [changed_eq]; exact ⟨rfl, rfl, rfl⟩

theorem sameKey_committed {sub : Subject} {r q : Record} (h : committed sub r = some q) : SameKey q r := by
  unfold committed at h
  split at h
  · split at h
    · cases h
    · cases h; exact ⟨rfl, rfl, rfl⟩
  · cases h; exact ⟨rfl, rfl, rfl⟩

theorem sameKey_ticked (r : Record) : SameKey (ticked r) r := by
  unfold ticked
  split
  · exact ⟨rfl, rfl, rfl⟩
  · split <;> exact ⟨rfl, rfl, rfl⟩

theorem sameKey_softened {r q : Record} (h : softened r = some q) : SameKey q r := by
  unfold softened at h
  split at h
  · cases h
  · cases h; exact ⟨rfl, rfl, rfl⟩

/-- Whether a slot's record belongs to a requester, as `owned` counts them. -/
theorem owned_eq (t : Table) (a : Requester) : owned t a = (List.finRange 48).countP fun i => t[i].any fun r => r.owner == a := by
  unfold owned
  congr 1
  funext i
  cases t[i] <;> rfl

/-- A table whose every record is sound and stands in a slot that held a record of its key is sound. -/
theorem tableOk_of_slots {t t' : Table} (ok : TableOk t)
    (slots : ∀ (i : SlotIx) (q : Record), t'[i] = some q → RecordOk q ∧ ∃ r, t[i] = some r ∧ SameKey q r) : TableOk t' := by
  obtain ⟨-, keys, quotas⟩ := ok
  refine ⟨fun i q slot => (slots i q slot).1, fun i j q hq x hx owner subject tag => ?_, fun a agent => ?_⟩
  · obtain ⟨-, r, hr, ro, rs, rt⟩ := slots i q hq
    obtain ⟨-, y, hy, yo, ys, yt⟩ := slots j x hx
    exact keys i j r hr y hy (by rw [← ro, ← yo, owner]) (by rw [← rs, ← ys, subject]) (by rw [← rt, ← yt, tag])
  · refine le_trans ?_ (quotas a agent)
    rw [owned_eq, owned_eq]
    refine List.countP_mono_left fun i _ mine => ?_
    obtain ⟨q, hq, isMine⟩ := (Option.any_eq_true _ _).1 mine
    obtain ⟨-, r, hr, sameOwner, -, -⟩ := slots i q hq
    rw [hr]
    simpa [← sameOwner] using isMine

theorem tableOk_rewrite {t : Table} {f : Record → Option Record} (ok : TableOk t)
    (records : ∀ r q, RecordOk r → f r = some q → RecordOk q ∧ SameKey q r) : TableOk (rewrite t f) := by
  refine tableOk_of_slots ok fun i q slot => ?_
  rw [rewrite_get] at slot
  obtain ⟨r, hr, rewritten⟩ := Option.bind_eq_some_iff.1 slot
  obtain ⟨sound, same⟩ := records r q (ok.1 i r hr) rewritten
  exact ⟨sound, r, hr, same⟩

theorem table_set_get (t : Table) (i j : SlotIx) (x : Option Record) : (t.set i x)[j] = if i = j then x else t[j] := by
  by_cases same : i = j
  · subst same; simp
  · simp [same, Fin.val_ne_of_ne same]

theorem tableOk_alter {t : Table} {i : SlotIx} {r q : Record} (ok : TableOk t) (slot : t[i] = some r) (sound : RecordOk q)
    (same : SameKey q r) : TableOk (t.set i (some q)) := by
  refine tableOk_of_slots ok fun j x hx => ?_
  rw [table_set_get] at hx
  split at hx
  · next h => cases hx; exact ⟨sound, r, h ▸ slot, same⟩
  · exact ⟨ok.1 j x hx, x, hx, rfl, rfl, rfl⟩

/-- One more record adds at most one to what a requester owns, and none to what another does. -/
theorem owned_set_le (t : Table) (i : SlotIx) (r : Record) (a : Requester) :
    owned (t.set i (some r)) a ≤ owned t a + if r.owner = a then 1 else 0 := by
  have atMost : ∀ l : List SlotIx,
      l.countP (fun j => (t.set i (some r))[j].any fun q => q.owner == a)
        ≤ l.countP (fun j => t[j].any fun q => q.owner == a) + if r.owner = a then l.count i else 0 := by
    intro l
    induction l with
    | nil => simp
    | cons j l ih =>
      rw [List.countP_cons, List.countP_cons, List.count_cons, table_set_get]
      by_cases same : i = j
      · subst same
        by_cases mine : r.owner = a
        · simp only [mine, if_true, Option.any_some, beq_self_eq_true] at ih ⊢
          split <;> omega
        · simp only [mine, if_true, if_false, Option.any_some, beq_iff_eq, Nat.add_zero] at ih ⊢
          omega
      · have other : (j == i) = false := beq_eq_false_iff_ne.2 (Ne.symm same)
        simp only [if_neg same, other, Bool.false_eq_true, if_false, Nat.add_zero]
        omega
  rw [owned_eq, owned_eq]
  refine (atMost _).trans (Nat.add_le_add_left ?_ _)
  split
  · exact List.nodup_iff_count_le_one.1 (List.nodup_finRange 48) i
  · exact le_rfl

/-- A new record of a key that none holds, of requester 0 or of an agent below its quota. -/
theorem tableOk_place {t : Table} {i : SlotIx} {r : Record} (ok : TableOk t) (sound : RecordOk r)
    (newKey : ∀ (j : SlotIx) (q : Record), t[j] = some q → ¬ SameKey q r) (underQuota : r.owner ≠ 0 → owned t r.owner < 12) :
    TableOk (t.set i (some r)) := by
  obtain ⟨records, keys, quotas⟩ := ok
  refine ⟨fun j q slot => ?_, fun j k q hq x hx owner subject tag => ?_, fun a agent => ?_⟩
  · rw [table_set_get] at slot
    split at slot
    · cases slot; exact sound
    · exact records j q slot
  · rw [table_set_get] at hq hx
    split at hq <;> split at hx
    · next h h' => exact h.symm.trans h'
    · cases hq; exact absurd ⟨owner.symm, subject.symm, tag.symm⟩ (newKey k x hx)
    · cases hx; exact absurd ⟨owner, subject, tag⟩ (newKey j q hq)
    · exact keys j k q hq x hx owner subject tag
  · have grown := owned_set_le t i r a
    split at grown
    · next mine =>
      subst mine
      have := underQuota agent
      omega
    · have := quotas a agent
      omega

/-! ### The seeded table (R22, Table 11-1) -/

theorem seeds_sound : ∀ x ∈ Default.seeds, x.2.1 ≠ 0 ∧ (x.1 = fanCapSubject → ∀ n : Fin 4, (x.2.2[n] : Half).toNat ≤ 15) := by decide

theorem seedRecord_ok {n : Fin 4} {i : SlotIx} {r : Record} (h : Default.seedRecord n i = some r) :
    RecordOk r ∧ r.owner = 0 ∧ r.tag = BitVec.ofNat 8 (0xF0 + i.val) ∧ i.val < 10 := by
  unfold Default.seedRecord at h
  split at h
  · cases h
  · next subject mask bounds seed =>
    cases h
    obtain ⟨inList, here⟩ := List.getElem?_eq_some_iff.1 seed
    obtain ⟨nonempty, fan⟩ := seeds_sound _ (here ▸ List.getElem_mem inList)
    exact ⟨⟨nonempty, nofun, nofun, nofun, fun _ => ⟨rfl, rfl⟩, fun _ agent => absurd rfl agent, nofun, fun h => ⟨fan h n, nofun⟩⟩,
      rfl, rfl, inList⟩

theorem defaultTable_get (n : Fin 4) (i : SlotIx) : (Default.table n)[i] = Default.seedRecord n i := by
  simp [Default.table]

theorem defaultTable_ok (n : Fin 4) : TableOk (Default.table n) := by
  have seeded : ∀ {i : SlotIx} {r : Record}, (Default.table n)[i] = some r → _ :=
    fun {i r} slot => seedRecord_ok (r := r) ((defaultTable_get n i).symm.trans slot)
  refine ⟨fun i r slot => (seeded slot).1, fun i j r hr q hq _ _ tag => ?_, fun a agent => ?_⟩
  · obtain ⟨-, -, tagI, smallI⟩ := seeded hr
    obtain ⟨-, -, tagJ, smallJ⟩ := seeded hq
    have sameTag := congrArg BitVec.toNat (tagI.symm.trans (tag.trans tagJ))
    rw [BitVec.toNat_ofNat, BitVec.toNat_ofNat, Nat.mod_eq_of_lt (by omega), Nat.mod_eq_of_lt (by omega)] at sameTag
    exact Fin.ext (by omega)
  · rw [owned_eq, List.countP_eq_zero.2]
    · exact Nat.zero_le 12
    · intro i _ mine
      obtain ⟨r, slot, isMine⟩ := (Option.any_eq_true _ _).1 mine
      exact agent ((beq_iff_eq.1 isMine).symm.trans (seeded slot).2.1)

/-! ### The steps -/

theorem ClaimEffect.tableOk {s u : State} {issuer : Requester} {c : Command} (h : ClaimEffect s issuer c u) (ok : TableOk s.table) :
    TableOk u.table := by
  cases h with
  | place f r i mayPlace asked newKey underQuota free =>
    obtain ⟨rfl, sound⟩ := placedRecord_ok mayPlace asked
    rw [recompute_table]
    refine tableOk_place ok sound (fun j q slot => of_findKey_none newKey slot) fun agent => ?_
    rw [not_and, not_le] at underQuota
    exact underQuota agent
  | change f k mask expected i r read inRange passed =>
    obtain ⟨slot, subject, -, live⟩ := of_checkKeyed_ok passed
    have sound := changed_ok (ok.1 i r slot) live (of_maskOf read) (subject ▸ of_boundInRange inRange)
    have written := tableOk_alter ok slot sound (sameKey_changed _ _ r)
    split <;> simpa using written
  | renew f k expected i r short passed =>
    obtain ⟨slot, -, admitted, live⟩ := of_checkKeyed_ok passed
    rw [writeRecord_table]
    exact tableOk_alter ok slot (renewed_ok (ok.1 i r slot) live short admitted) ⟨rfl, rfl, rfl⟩
  | retire f k expected i r passed =>
    obtain ⟨slot, -, -, -⟩ := of_checkKeyed_ok passed
    rw [recompute_table, writeRecord_table]
    exact tableOk_alter ok slot (retired_ok (ok.1 i r slot)) ⟨rfl, rfl, rfl⟩
  | sweep o x owner subject notices =>
    rw [recomputeList_table, postList_table]
    refine tableOk_rewrite ok fun r q sound swept => ?_
    cases swept
    split
    · exact ⟨retired_ok sound, rfl, rfl, rfl⟩
    · exact ⟨sound, rfl, rfl, rfl⟩
  | softReset =>
    simp only [postAll_table, State.withNotices_eq, State.withLink_table, recomputeAll_table, State.withTable_table]
    exact tableOk_rewrite ok fun r q sound kept => ⟨softened_ok sound kept, sameKey_softened kept⟩
  | setGovern => dsimp only; split <;> simpa using ok
  | _ => simpa using ok

theorem RowEffect.tableOk {s t : State} {i : Instr} (h : RowEffect s i t) (ok : TableOk s.table) : TableOk t.table := by
  cases h with
  | fullReset p => simpa [resetBlocks] using defaultTable_ok (Default.profile p)
  | frame _ _ _ effect => cases effect <;> simpa using ok
  | command e u reply _ effect => simpa using effect.tableOk ok
  | commitTimerExpiry sub =>
    rw [State.withCommitTimers_table, commit_table]
    exact tableOk_rewrite ok fun r q sound kept => ⟨committed_ok sound kept, sameKey_committed kept⟩
  | leaseTick =>
    rw [State.withLeaseClock_table, tickLeases_table]
    refine tableOk_rewrite ok fun r q sound kept => ?_
    cases kept
    exact ⟨ticked_ok sound, sameKey_ticked r⟩
  | _ => simpa using ok

/-- Settles O53: the tick leaves the table, and a row that writes it rewrites sound records under their keys, or adds one of a new key. -/
theorem stepKeepsTable : Obligations.StepKeepsTable := fun _ _ ok next =>
  step_keeps (P := fun s => TableOk s.table) (fun _ _ ok => ok) (fun _ ok => ok) (fun _ _ _ effect ok => effect.tableOk ok) next ok

end Sys2Proof.Machine
end

section
/-! SUPPORT. Resolved entries and target levels at every step (R89, R92, R129, R130): which slots an entry reads, what a rewritten table leaves of the
entries, and which targets a recompute, an evaluation and a route reach. -/

namespace Sys2Proof.Machine

/-! ### What an entry reads (R89) -/

/-- What a record bears on the entry of a subject in a posture: its in-force bound where it applies. -/
def bears (p : Posture) (sub : Subject) (r : Record) : Option Half :=
  if r.subject = sub ∧ applies p r = true then some r.bound else none

theorem bears_of_subject_ne {p : Posture} {sub : Subject} {r : Record} (h : r.subject ≠ sub) : bears p sub r = none :=
  if_neg fun both => h both.1

/-- Subject, bound and mask are all that a record bears on entries: state, lease and pending parts have no part in it (R16). -/
theorem bears_congr {p : Posture} {sub : Subject} {r q : Record} (subject : q.subject = r.subject) (bound : q.bound = r.bound)
    (mask : q.mask = r.mask) : bears p sub q = bears p sub r := by
  unfold bears applies
  rw [subject, bound, mask]

theorem computeEntry_set {t : Table} {i : SlotIx} {x : Option Record} {p : Posture} {sub : Subject}
    (same : x.bind (bears p sub) = t[i].bind (bears p sub)) : computeEntry (t.set i x) p sub = computeEntry t p sub := by
  refine computeEntry_congr fun j => ?_
  rw [table_set_get]
  split
  · next h => subst h; exact same
  · rfl

theorem computeEntry_rewrite {t : Table} {f : Record → Option Record} {p : Posture} {sub : Subject}
    (same : ∀ i : SlotIx, ∀ r ∈ t[i], (f r).bind (bears p sub) = bears p sub r) :
    computeEntry (rewrite t f) p sub = computeEntry t p sub := by
  refine computeEntry_congr fun i => ?_
  rw [rewrite_get]
  cases slot : t[i] with
  | none => rfl
  | some r => exact same i r slot

/-! ### Entries after a row (R92) -/

/-- Whether the entries hold depends on the table, the current posture and the entries. -/
theorem ResolvedOk.congr {s t : State} (ok : ResolvedOk s) (table : t.table = s.table) (posture : t.posture.current = s.posture.current)
    (resolver : t.resolver = s.resolver) : ResolvedOk t := by
  intro sub
  rw [table, posture, resolver]
  exact ok sub

/-- Recomputes make the entries of their subjects hold, and keep those of the others. -/
theorem resolvedOk_recomputeList {s : State} {l : List Subject}
    (others : ∀ sub, sub ∉ l → s.resolver[sub] = computeEntry s.table s.posture.current sub) : ResolvedOk (recomputeList s l) := by
  intro sub
  rw [recomputeList_entry, recomputeList_table, recomputeList_posture]
  split
  · rfl
  · next notIn => exact others sub notIn

theorem resolvedOk_recompute {s : State} {sub : Subject}
    (others : ∀ other, other ≠ sub → s.resolver[other] = computeEntry s.table s.posture.current other) : ResolvedOk (recompute s sub) :=
  resolvedOk_recomputeList (l := [sub]) fun other notIn => others other (by simpa using notIn)

theorem resolvedOk_recomputeAll (s : State) : ResolvedOk (recomputeAll s) :=
  resolvedOk_recomputeList fun sub notIn => absurd (List.mem_finRange sub) notIn

/-- A slot written leaves the entries of the subjects to which old and new record bear the same. -/
theorem ResolvedOk.entry_set {s u : State} (ok : ResolvedOk s) {i : SlotIx} {x : Option Record} (table : u.table = s.table.set i x)
    (posture : u.posture = s.posture) (resolver : u.resolver = s.resolver) {sub : Subject}
    (same : x.bind (bears s.posture.current sub) = s.table[i].bind (bears s.posture.current sub)) :
    u.resolver[sub] = computeEntry u.table u.posture.current sub := by
  rw [table, posture, resolver, computeEntry_set same]
  exact ok sub

/-- A table rewritten leaves the entries of the subjects to which every record bears the same as before. -/
theorem ResolvedOk.entry_rewrite {s u : State} (ok : ResolvedOk s) {f : Record → Option Record} (table : u.table = rewrite s.table f)
    (posture : u.posture = s.posture) (resolver : u.resolver = s.resolver) {sub : Subject}
    (same : ∀ i : SlotIx, ∀ r ∈ s.table[i], (f r).bind (bears s.posture.current sub) = bears s.posture.current sub r) :
    u.resolver[sub] = computeEntry u.table u.posture.current sub := by
  rw [table, posture, resolver, computeEntry_rewrite same]
  exact ok sub

theorem differsInForce_eq_false {r q : Record} : differsInForce r q = false ↔ q.bound = r.bound ∧ q.mask = r.mask := by
  simp only [differsInForce, Bool.or_eq_false_iff, bne_eq_false_iff_eq]
  exact and_congr eq_comm eq_comm

theorem bears_ticked (p : Posture) (sub : Subject) (r : Record) : bears p sub (ticked r) = bears p sub r := by
  unfold ticked
  split
  · exact bears_congr rfl rfl rfl
  · split <;> exact bears_congr rfl rfl rfl

theorem bears_committed_of_ne {p : Posture} {sub other : Subject} (ne : other ≠ sub) (r : Record) :
    (committed sub r).bind (bears p other) = bears p other r := by
  by_cases treated : committedBy sub r = true
  · have subject : r.subject = sub := by
      simp only [committedBy, Bool.and_eq_true, beq_iff_eq] at treated
      exact treated.1
    have before : bears p other r = none := bears_of_subject_ne fun h => ne (h.symm.trans subject)
    rw [before]
    unfold committed
    rw [if_pos treated]
    split
    · rfl
    · exact bears_of_subject_ne fun h => ne (h.symm.trans subject)
  · rw [committed, if_neg treated]
    rfl

/-- The commit recomputes its subject unless it treated no record, and then it rewrote none (R59). -/
theorem resolvedOk_commit {s : State} (ok : ResolvedOk s) (sub : Subject) : ResolvedOk (commit s sub) := by
  unfold commit
  dsimp only
  split
  · next untreated =>
    intro other
    refine ok.entry_rewrite (f := committed sub) (by simp) (by simp) (by simp) fun i r slot => ?_
    have notBy : ¬ committedBy sub r = true := fun by_ => by
      have listed := mem_slotsWhere.2 ⟨slot, by_⟩
      rw [List.isEmpty_iff.1 untreated] at listed
      cases listed
    rw [committed, if_neg notBy]
    rfl
  · exact resolvedOk_recompute fun other ne =>
      ok.entry_rewrite (f := committed sub) (by simp) (by simp) (by simp) fun _ r _ => bears_committed_of_ne ne r

theorem resolvedOk_tickLeases {s : State} (ok : ResolvedOk s) : ResolvedOk (tickLeases s) :=
  resolvedOk_recomputeList fun sub _ =>
    ok.entry_rewrite (f := fun r => some (ticked r)) (by simp) (by simp) (by simp) fun _ r _ => bears_ticked s.posture.current sub r

theorem ResolvedOk.postAll {s : State} (ok : ResolvedOk s) (n : Notice) : ResolvedOk (postAll s n) := ok.congr rfl rfl rfl

theorem ResolvedOk.withNotices {s : State} (ok : ResolvedOk s) (x : Vector NoticeState 8) : ResolvedOk (s.withNotices x) :=
  ok.congr rfl rfl rfl

theorem resolvedOk_changePosture (s : State) (p : Posture) : ResolvedOk (changePosture s p) :=
  (resolvedOk_recomputeAll _).postAll _

theorem resolvedOk_runSettle {s : State} (ok : ResolvedOk s) (x : Settle) : ResolvedOk (runSettle s x) := by
  unfold runSettle
  split
  · exact resolvedOk_changePosture s _
  · exact ok.congr rfl rfl rfl

/-- A settle that starts leaves the entries, or ends at once in the posture change, which recomputes them all (R75, R78). -/
theorem resolvedOk_settleAfter {s : State} (ok : ResolvedOk s) (before : Posture) : ResolvedOk (settleAfter s before) := by
  unfold settleAfter startSettle
  dsimp only
  split
  · exact ok
  · split
    · exact ok.congr rfl rfl rfl
    · split
      · exact resolvedOk_runSettle ok _
      · split
        · exact ok.congr rfl rfl rfl
        · exact resolvedOk_runSettle ok _

theorem resolvedOk_settleOnMotion {s : State} (ok : ResolvedOk s) (asserted : Bool) : ResolvedOk (settleOnMotion s asserted) := by
  unfold settleOnMotion
  split
  · split
    · split
      · exact ok.congr rfl rfl rfl
      · split
        · exact resolvedOk_runSettle ok _
        · exact ok
    · exact ok
  · exact ok

theorem ClaimEffect.resolvedOk {s u : State} {issuer : Requester} {c : Command} (h : ClaimEffect s issuer c u) (ok : ResolvedOk s) :
    ResolvedOk u := by
  cases h with
  | place f r i _ _ _ _ free =>
    refine resolvedOk_recompute fun other ne => ?_
    refine ok.entry_set (u := s.withTable (s.table.set i (some r))) rfl rfl rfl ?_
    rw [of_lowestFree free]
    exact bears_of_subject_ne (Ne.symm ne)
  | change f k mask expected i r _ _ passed =>
    obtain ⟨slot, -, -, -⟩ := of_checkKeyed_ok passed
    have subject : (changed f.bound mask r).subject = r.subject := (sameKey_changed _ _ r).2.1
    split
    · refine resolvedOk_recompute fun other ne => ok.entry_set (writeRecord_table ..) (writeRecord_posture ..) (writeRecord_resolver ..) ?_
      rw [slot]
      exact (bears_of_subject_ne fun h => ne (h.symm.trans subject)).trans (bears_of_subject_ne (Ne.symm ne)).symm
    · next same =>
      obtain ⟨bound, maskSame⟩ := differsInForce_eq_false.1 (Bool.eq_false_iff.2 same)
      intro other
      refine ok.entry_set (writeRecord_table ..) (writeRecord_posture ..) (writeRecord_resolver ..) ?_
      rw [slot]
      exact bears_congr subject bound maskSame
  | renew f k expected i r _ passed =>
    obtain ⟨slot, -, -, -⟩ := of_checkKeyed_ok passed
    intro other
    refine ok.entry_set (writeRecord_table ..) (writeRecord_posture ..) (writeRecord_resolver ..) ?_
    rw [slot]
    exact bears_congr rfl rfl rfl
  | retire f k expected i r passed =>
    obtain ⟨slot, -, -, -⟩ := of_checkKeyed_ok passed
    refine resolvedOk_recompute fun other _ => ok.entry_set (writeRecord_table ..) (writeRecord_posture ..) (writeRecord_resolver ..) ?_
    rw [slot]
    exact bears_congr rfl rfl rfl
  | sweep o x owner subject notices =>
    refine resolvedOk_recomputeList fun sub _ => ?_
    refine ok.entry_rewrite (f := fun r => some (if sweeps owner subject r then retired r else r)) (by simp) (by simp) (by simp)
      fun _ r _ => ?_
    show bears _ sub (if _ then retired r else r) = _
    split
    · exact bears_congr rfl rfl rfl
    · rfl
  | softReset => exact ((resolvedOk_recomputeAll _).withNotices _).postAll _
  | setGovern => dsimp only; split <;> exact ok.congr (by simp) (by simp) (by simp)
  | _ => exact ok.congr (by simp) (by simp) (by simp)

theorem resolvedOk_resetBlocks (p : PinLevels) (s : State) : ResolvedOk (resetBlocks p s) := fun sub => by
  simp [resetBlocks, Default.resolver, Default.posture]

theorem RowEffect.resolvedOk {s t : State} {i : Instr} (h : RowEffect s i t) (ok : ResolvedOk s) : ResolvedOk t := by
  cases h with
  | fullReset p => exact (resolvedOk_resetBlocks p s).congr (by simp) (by simp) (by simp)
  | frame _ _ _ effect => cases effect <;> exact ok.congr (by simp) (by simp) (by simp)
  | command e u reply _ effect => exact (effect.resolvedOk ok).congr (by simp) (by simp) (by simp)
  | commitTimerExpiry sub => exact (resolvedOk_commit ok sub).congr rfl rfl rfl
  | leaseTick => exact (resolvedOk_tickLeases ok).congr (by simp) (by simp) (by simp)
  | postureInputEdge input level =>
    have kept : ResolvedOk (keepEdge s (inputIndex input) level) := ok.congr rfl rfl rfl
    exact resolvedOk_settleAfter kept _
  | motionEdge asserted =>
    have kept : ResolvedOk (keepEdge s motionIndex asserted) := ok.congr rfl rfl rfl
    exact resolvedOk_settleOnMotion kept asserted
  | settleTimerExpiry x => exact resolvedOk_changePosture s _
  | adapterRises | adapterFalls => exact ok.congr rfl rfl rfl
  | _ => exact ok.congr (by simp) (by simp) (by simp)

/-! ### Target levels (R129, R130) -/

/-- The target level of an actuator is the one the pressures, the routes and the fan cap give. -/
def TargetOk (s : State) (a : OutputIx) : Prop := s.governor.targets[a] = targetLevel s.governor s.fanCap a

theorem TargetOk.congr {s t : State} {a : OutputIx} (ok : TargetOk s a) (governor : t.governor = s.governor)
    (resolver : t.resolver = s.resolver) : TargetOk t a := by
  unfold TargetOk
  rw [governor, fanCap_congr resolver]
  exact ok

theorem TargetsOk.congr {s t : State} (ok : TargetsOk s) (governor : t.governor = s.governor) (resolver : t.resolver = s.resolver) :
    TargetsOk t := fun a => TargetOk.congr (ok a) governor resolver

/-- Subjects that make the same demands give the same target level. -/
theorem targetLevel_congr {g g' : Governor} {a : OutputIx} (same : ∀ m, contribution g' a m = contribution g a m) (cap : Level) :
    targetLevel g' cap a = targetLevel g cap a := by
  have demands : demand g' a = demand g a := by
    unfold demand
    congr 1
    funext d m
    rw [same]
  unfold targetLevel
  rw [demands]

/-- The fan cap has a part in the FAN target alone. -/
theorem targetLevel_of_ne_fan {g : Governor} {a : OutputIx} (ne : a ≠ fanOutput) (cap cap' : Level) :
    targetLevel g cap a = targetLevel g cap' a := by
  rw [targetLevel, targetLevel, if_neg ne, if_neg ne]

/-- A recompute of a target makes it hold and leaves the others. -/
theorem targetOk_recomputeTarget {s : State} {a b : OutputIx} : TargetOk (recomputeTarget s a) b ↔ b = a ∨ TargetOk s b := by
  have level : targetLevel (recomputeTarget s a).governor (recomputeTarget s a).fanCap b = targetLevel s.governor s.fanCap b := rfl
  unfold TargetOk
  rw [level, recomputeTarget_targets]
  by_cases same : b = a
  · subst same; simp
  · simp [same, Fin.val_ne_of_ne (Ne.symm same)]

theorem targetOk_recomputeTargets {s : State} {l : List OutputIx} {b : OutputIx} :
    TargetOk (l.foldl recomputeTarget s) b ↔ b ∈ l ∨ TargetOk s b := by
  induction l generalizing s with
  | nil => simp
  | cons a l ih =>
    rw [List.foldl_cons, ih, targetOk_recomputeTarget, List.mem_cons]
    tauto

/-- A recompute of an entry keeps every target: a changed fan cap recomputes the one that it limits (R97). -/
theorem targetsOk_recompute {s : State} (ok : TargetsOk s) (sub : Subject) : TargetsOk (recompute s sub) := by
  intro a
  unfold recompute
  dsimp only
  split
  · next sameCap => exact (ok a).trans (congrArg (targetLevel s.governor · a) sameCap.symm)
  · refine targetOk_recomputeTarget.2 ?_
    by_cases fan : a = fanOutput
    · exact .inl fan
    · exact .inr ((ok a).trans (targetLevel_of_ne_fan fan _ _))

theorem targetsOk_recomputeList {s : State} (ok : TargetsOk s) (l : List Subject) : TargetsOk (recomputeList s l) := by
  induction l generalizing s with
  | nil => exact ok
  | cons sub l ih => exact ih (targetsOk_recompute ok sub)

theorem targetsOk_recomputeAll {s : State} (ok : TargetsOk s) : TargetsOk (recomputeAll s) := targetsOk_recomputeList ok _

theorem TargetsOk.postAll {s : State} (ok : TargetsOk s) (n : Notice) : TargetsOk (postAll s n) := ok.congr rfl rfl

theorem TargetsOk.postList {s : State} (ok : TargetsOk s) (l : List (Requester × Notice)) : TargetsOk (postList s l) :=
  ok.congr (by simp) (by simp)

theorem TargetsOk.withNotices {s : State} (ok : TargetsOk s) (x : Vector NoticeState 8) : TargetsOk (s.withNotices x) := ok.congr rfl rfl

theorem TargetsOk.withPosture {s : State} (ok : TargetsOk s) (x : PostureMonitor) : TargetsOk (s.withPosture x) := ok.congr rfl rfl

theorem TargetsOk.withTable {s : State} (ok : TargetsOk s) (x : Table) : TargetsOk (s.withTable x) := ok.congr rfl rfl

theorem TargetsOk.withMeasure {s : State} (ok : TargetsOk s) (x : Measurement) : TargetsOk (s.withMeasure x) := ok.congr rfl rfl

theorem targetsOk_changePosture {s : State} (ok : TargetsOk s) (p : Posture) : TargetsOk (changePosture s p) :=
  (targetsOk_recomputeAll (ok.withPosture _)).postAll _

theorem targetsOk_runSettle {s : State} (ok : TargetsOk s) (x : Settle) : TargetsOk (runSettle s x) := by
  unfold runSettle
  split
  · exact targetsOk_changePosture ok _
  · exact ok.congr rfl rfl

theorem targetsOk_settleAfter {s : State} (ok : TargetsOk s) (before : Posture) : TargetsOk (settleAfter s before) := by
  unfold settleAfter startSettle
  dsimp only
  split
  · exact ok
  · split
    · exact ok.congr rfl rfl
    · split
      · exact targetsOk_runSettle ok _
      · split
        · exact ok.congr rfl rfl
        · exact targetsOk_runSettle ok _

theorem targetsOk_settleOnMotion {s : State} (ok : TargetsOk s) (asserted : Bool) : TargetsOk (settleOnMotion s asserted) := by
  unfold settleOnMotion
  split
  · split
    · split
      · exact ok.congr rfl rfl
      · split
        · exact targetsOk_runSettle ok _
        · exact ok
    · exact ok
  · exact ok

/-- A subject written with its pressure kept makes the demands it made. -/
theorem contribution_of_pressure {g : Governor} {m : Measured} {x : Governed} (pressure : x.pressure = g.subjects[m].pressure)
    (a : OutputIx) (m' : Measured) : contribution { g with subjects := g.subjects.set m x } a m' = contribution g a m' := by
  have kept : (g.subjects.set m x)[m'].pressure = g.subjects[m'].pressure := by
    by_cases same : m = m'
    · subst same; simpa using pressure
    · simp [Fin.val_ne_of_ne same]
  unfold contribution
  dsimp only
  split
  · rfl
  · simp only [kept]

/-- A subject written makes the demands it made on the actuators to which it has no route: none. -/
theorem contribution_of_no_route {g : Governor} {m : Measured} {x : Governed} {a : OutputIx} (unrouted : a ∉ routed g m)
    (m' : Measured) : contribution { g with subjects := g.subjects.set m x } a m' = contribution g a m' := by
  unfold contribution
  dsimp only
  by_cases same : m = m'
  · subst same
    have noRoute : g.routes[m][a] = none := by
      simpa [routed] using unrouted
    rw [noRoute]
  · split
    · rfl
    · simp [Fin.val_ne_of_ne same]

theorem targetsOk_withSubject {s : State} (ok : TargetsOk s) (m : Measured) {x : Governed}
    (pressure : x.pressure = s.governor.subjects[m].pressure) :
    TargetsOk (s.withGovernor { s.governor with subjects := s.governor.subjects.set m x }) := by
  intro a
  exact (ok a).trans (targetLevel_congr (contribution_of_pressure pressure a) _).symm

theorem targetsOk_handSaturated {s : State} (ok : TargetsOk s) : TargetsOk (handSaturated s) := ok.congr (by simp) (by simp)

/-- An evaluation that steps recomputes the targets of its routes; one that does not leaves every demand (R124). -/
theorem targetsOk_evaluate {s : State} (ok : TargetsOk s) (m : Measured) (v : Nat) : TargetsOk (evaluate s m v) := by
  have stepped : TargetsOk (
      let g' := judgeRun s.timebase.count s.resolver[m.castSucc].limit v
        (stepPressure s.timebase.count s.resolver[m.castSucc].limit v s.governor.subjects[m])
      let u := s.withGovernor { s.governor with subjects := s.governor.subjects.set m g' }
      if g'.pressure ≠ s.governor.subjects[m].pressure then (routed u.governor m).foldl recomputeTarget u else u) := by
    dsimp only
    split
    · intro a
      refine targetOk_recomputeTargets.2 ?_
      by_cases reached : a ∈ routed s.governor m
      · exact .inl reached
      · exact .inr ((ok a).trans (targetLevel_congr (contribution_of_no_route reached) _).symm)
    · next same => exact targetsOk_withSubject ok m (not_not.1 same)
  unfold evaluate
  dsimp only at stepped ⊢
  split
  · exact targetsOk_handSaturated stepped
  · exact stepped

theorem targetsOk_filterUpdate {s : State} (ok : TargetsOk s) (code : BitVec 10) (m : Measured) : TargetsOk (filterUpdate s code m) :=
  targetsOk_evaluate (ok.withMeasure _) m _

theorem targetsOk_judgeSources {s : State} (ok : TargetsOk s) (which : SourceSet) : TargetsOk (judgeSources s which) :=
  ok.congr (by simp) (by simp)

/-! ### What both parts of a completion keep, a completion keeps -/

/-- A property that each element of a list keeps, the list keeps. -/
theorem foldl_preserves {α : Type} {P : State → Prop} {f : State → α → State} {l : List α} (keeps : ∀ s, ∀ a ∈ l, P s → P (f s a))
    {s : State} (holds : P s) : P (l.foldl f s) := by
  induction l generalizing s with
  | nil => exact holds
  | cons a l ih =>
    exact ih (fun s b mem => keeps s b (List.mem_cons_of_mem a mem)) (keeps s a (List.mem_cons_self ..) holds)

theorem eitherOrder_preserves {P : State → Prop} {f g : State → State} (hf : ∀ s, P s → P (f s)) (hg : ∀ s, P s → P (g s)) {s : State}
    (holds : P s) : P (eitherOrder f g s) := by
  rcases eitherOrder_cases s f g with h | h <;> rw [h]
  · exact hg _ (hf s holds)
  · exact hf _ (hg s holds)

/-- A property that the latest code and the counter of free values have no part in, and that a filter update and a judgement keep, a completion
keeps. -/
theorem completion_preserves {P : State → Prop} (latest : ∀ s x, P s → P (s.withMeasure { s.measure with latest := x }))
    (updates : ∀ s code m, P s → P (filterUpdate s code m)) (judges : ∀ s w, P s → P (judgeSources s w))
    (fresh : ∀ s n, P s → P (s.withFresh n)) {s : State} (holds : P s) (c : Channel) (code : BitVec 10) : P (completion s c code) :=
  fresh _ _ (eitherOrder_preserves (fun _ h => foldl_preserves (fun s m _ => updates s code m) h) (fun s => judges s _) (latest s _ holds))

/-- The same of the completion of a scan conversion, whose readers, the period ends due and a READ GOVERNOR, keep the property too. -/
theorem scanCompletion_preserves {P : State → Prop} {s : State} (latest : ∀ t x, P t → P (t.withMeasure { t.measure with latest := x }))
    (updates : ∀ t code m, P t → P (filterUpdate t code m)) (judges : ∀ t w, P t → P (judgeSources t w))
    (periodEnds : ∀ t (ix : OutputIx), s.outputs[ix].nextEnd = s.timebase → P t → P (takePeriodEnd t ix))
    (reads : ∀ t, P t → P (respond (readGovernorClaim t))) (fresh : ∀ t n, P t → P (t.withFresh n)) (holds : P s) (c : Channel)
    (code : BitVec 10) : P (scanCompletion s c code) := by
  unfold scanCompletion
  split
  · obtain ⟨order, perm, parts⟩ := completionAround_parts s code (readersWithin s)
    rw [parts]
    refine fresh _ _ (foldl_preserves (fun t part mem h => ?_) (latest s _ holds))
    cases part with
    | evaluation m => exact updates t code m h
    | judgement => exact judges t _ h
    | periodEnd ix =>
      have reader : .periodEnd ix ∈ readersWithin s := by simpa using perm.mem_iff.1 mem
      rcases mem_readersWithin s reader with ⟨ix', same, due⟩ | ⟨other, -⟩
      · cases same
        exact periodEnds t ix due h
      · cases other
    | readGovernor => exact reads t h
  · exact completion_preserves latest updates judges fresh holds c code

/-! ### Targets after a row -/

theorem ClaimEffect.targetsOk {s u : State} {issuer : Requester} {c : Command} (h : ClaimEffect s issuer c u) (ok : TargetsOk s) :
    TargetsOk u := by
  cases h with
  | place => exact targetsOk_recompute (ok.withTable _) _
  | change f k mask expected i r =>
    have written : TargetsOk (writeRecord s issuer i (changed f.bound mask r)) := ok.congr (by simp) (by simp)
    split
    · exact targetsOk_recompute written _
    · exact written
  | retire f k expected i r =>
    have written : TargetsOk (writeRecord s issuer i (retired r)) := ok.congr (by simp) (by simp)
    exact targetsOk_recompute written _
  | sweep => exact targetsOk_recomputeList ((ok.withTable _).postList _) _
  | softReset => exact ((targetsOk_recomputeAll (ok.withTable _)).withNotices _).postAll _
  | setGovern f m =>
    have written := targetsOk_withSubject ok m (x := governedBy f s.governor.subjects[m]) rfl
    dsimp only
    split
    · exact targetsOk_handSaturated written
    · exact written
  | setRoute subject actuator entry m a route =>
    intro b
    refine targetOk_recomputeTarget.2 ?_
    by_cases named : b = a
    · exact .inl named
    · refine .inr ((ok b).trans (targetLevel_congr (fun m' => ?_) _).symm)
      unfold contribution
      by_cases same : m = m'
      · subst same
        simp [Fin.val_ne_of_ne (Ne.symm named)]
      · simp [Fin.val_ne_of_ne same]
  | _ => exact ok.congr (by simp) (by simp)

theorem targetsOk_resetBlocks (p : PinLevels) (s : State) : TargetsOk (resetBlocks p s) := by
  have atRest : ∀ (cap : Level) (a : OutputIx), targetLevel Default.governor cap a = 0 := by decide
  intro a
  show Default.governor.targets[a] = targetLevel Default.governor _ a
  rw [atRest]
  simp [Default.governor]

theorem RowEffect.targetsOk {s t : State} {i : Instr} (h : RowEffect s i t) (ok : TargetsOk s) : TargetsOk t := by
  cases h with
  | fullReset p => exact targetsOk_judgeSources (targetsOk_resetBlocks p s) _
  | frame _ _ _ effect => cases effect <;> exact ok.congr (by simp) (by simp)
  | command e u reply _ effect => exact (effect.targetsOk ok).congr (by simp) (by simp)
  | commitTimerExpiry sub =>
    have committed : TargetsOk (commit s sub) := by
      unfold commit
      dsimp only
      split
      · exact (ok.withTable _).postList _
      · exact targetsOk_recompute ((ok.withTable _).postList _) _
    exact committed.congr rfl rfl
  | leaseTick =>
    have ticked : TargetsOk (tickLeases s) := targetsOk_recomputeList ((ok.withTable _).postList _) _
    exact ticked.congr (by simp) (by simp)
  | postureInputEdge input level =>
    have kept : TargetsOk (keepEdge s (inputIndex input) level) := ok.congr rfl rfl
    exact targetsOk_settleAfter kept _
  | motionEdge asserted =>
    have kept : TargetsOk (keepEdge s motionIndex asserted) := ok.congr rfl rfl
    exact targetsOk_settleOnMotion kept asserted
  | settleTimerExpiry x => exact targetsOk_changePosture ok _
  | conversionCompletion code c =>
    exact (scanCompletion_preserves (P := TargetsOk) (fun _ _ h => h.congr rfl rfl) (fun _ code m h => targetsOk_filterUpdate h code m)
      (fun _ w h => targetsOk_judgeSources h w) (fun _ _ _ h => h.congr rfl rfl) (fun _ h => h.congr (by simp) (by simp))
      (fun _ _ h => h.congr rfl rfl) ok c code).congr rfl rfl
  | spotCompletion code =>
    exact (completion_preserves (P := TargetsOk) (fun _ _ h => h.congr rfl rfl) (fun _ code m h => targetsOk_filterUpdate h code m)
      (fun _ w h => targetsOk_judgeSources h w) (fun _ _ h => h.congr rfl rfl) ok spotChannel code).congr rfl rfl
  | _ => exact ok.congr (by simp) (by simp)

/-- Settles O54: the tick reaches neither, and every row recomputes what it makes stale: the entries of the subjects whose records it alters, the FAN
target when the fan cap changes, and the targets of the routes when a pressure does. -/
theorem stepKeepsEntriesAndTargets : Obligations.StepKeepsEntriesAndTargets := fun _ _ resolved targets next =>
  step_keeps (P := fun s => ResolvedOk s ∧ TargetsOk s)
    (fun _ _ ok => ⟨ok.1.congr rfl rfl rfl, ok.2.congr rfl rfl⟩) (fun _ ok => ⟨ok.1.congr rfl rfl rfl, ok.2.congr rfl rfl⟩)
    (fun _ _ _ effect ok => ⟨effect.resolvedOk ok.1, effect.targetsOk ok.2⟩) next ⟨resolved, targets⟩

end Sys2Proof.Machine
end

section
/-! SUPPORT. The Posture Monitor sound at every step (R73 to R76, R83): STEADY or settling as two cases, the posture that each operation of the
settle machine writes, and the edges that do not reach the raw posture. -/

namespace Sys2Proof.Machine

/-! ### STEADY or settling -/

/-- The settle times in force are acceptable (R83). -/
def TimesOk (p : PostureMonitor) : Prop :=
  p.strictTime.toNat ≤ 2550 ∧ p.strictTime.toNat % 10 = 0 ∧ p.looseTime.toNat ≤ 25500 ∧ p.looseTime.toNat % 100 = 0

theorem postureOk_of_steady {p : PostureMonitor} (steady : p.settle = none) (raw : rawPosture p.levels = p.current) (times : TimesOk p) :
    PostureOk p :=
  ⟨iff_of_true steady raw, by rw [steady]; nofun, times⟩

theorem postureOk_of_settling {p : PostureMonitor} {x : Settle} (settling : p.settle = some x) (ok : SettleOk p x) (times : TimesOk p) :
    PostureOk p := by
  obtain ⟨candidate, different, -, -, -⟩ := id ok
  refine ⟨iff_of_false (by rw [settling]; nofun) fun raw => different (candidate.trans raw), fun y here => ?_, times⟩
  cases settling.symm.trans here
  exact ok

/-- A sound Posture Monitor is STEADY in the raw posture, or in a sound settle. -/
theorem PostureOk.steady_or_settling {p : PostureMonitor} (ok : PostureOk p) :
    TimesOk p ∧ ((p.settle = none ∧ rawPosture p.levels = p.current) ∨ ∃ x, p.settle = some x ∧ SettleOk p x) := by
  obtain ⟨steady, settling, times⟩ := ok
  refine ⟨times, ?_⟩
  cases here : p.settle with
  | none => exact .inl ⟨rfl, steady.1 here⟩
  | some x => exact .inr ⟨x, rfl, settling x here⟩

/-- Whether a settle is sound depends on the raw posture, the current one and the level of MOTION. -/
theorem SettleOk.congr {p q : PostureMonitor} {x : Settle} (ok : SettleOk p x) (raw : rawPosture q.levels = rawPosture p.levels)
    (current : q.current = p.current) (motion : q.levels[motionIndex] = p.levels[motionIndex]) : SettleOk q x := by
  unfold SettleOk
  rw [raw, current, motion]
  exact ok

/-- What leaves the raw posture, the current one, the settle, the level of MOTION and acceptable times leaves a sound Posture Monitor. -/
theorem PostureOk.congr {p q : PostureMonitor} (ok : PostureOk p) (raw : rawPosture q.levels = rawPosture p.levels)
    (current : q.current = p.current) (settle : q.settle = p.settle) (motion : q.levels[motionIndex] = p.levels[motionIndex])
    (times : TimesOk q) : PostureOk q := by
  rcases ok.steady_or_settling with ⟨-, ⟨steady, still⟩ | ⟨x, settling, sound⟩⟩
  · exact postureOk_of_steady (settle.trans steady) (by rw [raw, current, still]) times
  · exact postureOk_of_settling (settle.trans settling) (sound.congr raw current motion) times

/-! ### Levels (R72) -/

/-- MOTION and ADP_PRES have no part in the raw posture. -/
theorem rawPosture_set {levels : Vector Bool 5} {i : Fin 5} (other : 3 ≤ i.val) (b : Bool) : rawPosture (levels.set i b) = rawPosture levels := by
  have h0 : i.val ≠ 0 := by omega
  have h1 : i.val ≠ 1 := by omega
  have h2 : i.val ≠ 2 := by omega
  simp [rawPosture, h0, h1, h2]

theorem levels_set_motion {levels : Vector Bool 5} {i : Fin 5} (other : i ≠ motionIndex) (b : Bool) :
    (levels.set i b)[motionIndex] = levels[motionIndex] := by
  simp [Fin.val_ne_of_ne other]

theorem inputIndex_ne_motionIndex (input : PostureInput) : inputIndex input ≠ motionIndex := by cases input <;> decide

/-! ### The posture that the settle machine writes (R75 to R78) -/

@[simp] theorem changePosture_posture (s : State) (p : Posture) : (changePosture s p).posture = { s.posture with
    current := p, settle := none, lastChange := some (s.timebase.count, s.posture.current) } := by
  simp [changePosture]

theorem postureOk_changePosture {s : State} {p : Posture} (raw : rawPosture s.posture.levels = p) (times : TimesOk s.posture) :
    PostureOk (changePosture s p).posture := by
  rw [changePosture_posture]
  exact postureOk_of_steady rfl raw times

/-- A settle run from now ends at once in the raw posture, or is sound with its due count. -/
theorem postureOk_runSettle {s : State} {x : Settle} (raw : rawPosture s.posture.levels = x.candidate)
    (lasting : ∀ due, SettleOk s.posture { x with due := some due }) (times : TimesOk s.posture) :
    PostureOk (runSettle s x).posture := by
  unfold runSettle
  split
  · exact postureOk_changePosture raw times
  · exact postureOk_of_settling rfl ((lasting _).congr rfl rfl rfl) times

theorem postureOk_startSettle {s : State} (different : rawPosture s.posture.levels ≠ s.posture.current) (times : TimesOk s.posture) :
    PostureOk (startSettle s (rawPosture s.posture.levels)).posture := by
  obtain ⟨strictShort, -, looseShort, -⟩ := id times
  unfold startSettle
  split
  · next stricterRaw =>
    have order : postureIndex s.posture.current < postureIndex (rawPosture s.posture.levels) := by simpa [stricter] using stricterRaw
    exact postureOk_runSettle rfl (fun due => ⟨rfl, different, iff_of_true rfl order, fun _ => ⟨rfl, strictShort⟩, nofun⟩) times
  · next looserRaw =>
    have order : ¬ postureIndex s.posture.current < postureIndex (rawPosture s.posture.levels) := by simpa [stricter] using looserRaw
    split
    · next motion =>
      exact postureOk_of_settling rfl
        ⟨rfl, different, iff_of_false nofun order, nofun, fun _ => ⟨iff_of_true rfl motion, looseShort⟩⟩ times
    · next noMotion =>
      exact postureOk_runSettle rfl
        (fun due => ⟨rfl, different, iff_of_false nofun order, nofun, fun _ => ⟨iff_of_false nofun noMotion, looseShort⟩⟩) times

/-- An edge of LID, DOCK or CONTACT leaves the machine, cancels its settle or starts one, by the raw posture it makes (R74, R75). -/
theorem postureOk_inputEdge {s : State} (ok : PostureOk s.posture) (input : PostureInput) (level : Bool) :
    PostureOk (settleAfter (keepEdge s (inputIndex input) level) (rawPosture s.posture.levels)).posture := by
  have times := ok.steady_or_settling.1
  unfold settleAfter
  dsimp only
  split
  · next sameRaw => exact ok.congr sameRaw rfl rfl (levels_set_motion (inputIndex_ne_motionIndex input) level) times
  · split
    · next back => exact postureOk_of_steady rfl back times
    · next different => exact postureOk_startSettle different times

/-- An edge of MOTION holds a LOOSE settle or restarts a held one; it finds it held exactly when MOTION was asserted (R76). -/
theorem postureOk_motionEdge {s : State} (ok : PostureOk s.posture) {asserted : Bool} (edge : s.posture.levels[motionIndex] ≠ asserted) :
    PostureOk (settleOnMotion (keepEdge s motionIndex asserted) asserted).posture := by
  obtain ⟨times, here⟩ := ok.steady_or_settling
  have keptRaw : rawPosture (keepEdge s motionIndex asserted).posture.levels = rawPosture s.posture.levels :=
    rawPosture_set (i := motionIndex) le_rfl asserted
  have keptMotion : (keepEdge s motionIndex asserted).posture.levels[motionIndex] = asserted := by simp [keepEdge]
  rcases here with ⟨steady, still⟩ | ⟨x, settling, candidate, different, order, strict, loose⟩
  · rw [settleOnMotion_of_steady (by rwa [keepEdge_settle])]
    exact postureOk_of_steady steady (keptRaw.trans still) times
  · cases kind : x.kind with
    | strict =>
      rw [settleOnMotion_of_strict (by rwa [keepEdge_settle]) kind]
      exact postureOk_of_settling settling
        ⟨candidate.trans keptRaw.symm, different, order, strict, fun isLoose => nomatch kind.symm.trans isLoose⟩ times
    | loose =>
      have notStrict : x.kind ≠ .strict := fun isStrict => nomatch kind.symm.trans isStrict
      obtain ⟨held, short⟩ := loose kind
      cases asserted with
      | true =>
        rw [settleOnMotion_true_of_loose (by rwa [keepEdge_settle]) kind]
        exact postureOk_of_settling rfl
          ⟨candidate.trans keptRaw.symm, different, order, fun h => absurd h notStrict, fun _ => ⟨iff_of_true rfl keptMotion, short⟩⟩ times
      | false =>
        have wasHeld : x.due = none := held.2 (by simpa using edge)
        rw [settleOnMotion_false_of_held (by rwa [keepEdge_settle]) kind wasHeld]
        exact postureOk_runSettle (keptRaw.trans candidate.symm)
          (fun due => ⟨candidate.trans keptRaw.symm, different, order, fun h => absurd h notStrict,
            fun _ => ⟨iff_of_false nofun (by rw [keptMotion]; nofun), short⟩⟩) times

theorem postureOk_adapterEdge {s : State} (ok : PostureOk s.posture) (present : Bool) : PostureOk (keepEdge s adapterIndex present).posture :=
  ok.congr (rawPosture_set (i := adapterIndex) (by decide) present) rfl rfl (levels_set_motion (by decide) present) ok.steady_or_settling.1

/-! ### Settings and full reset (R81, R83) -/

theorem of_settleTimeAccepted {present : Bool} {limit step : Nat} {t : Half} (h : settleTimeAccepted present limit step t = true)
    (here : present = true) : t.toNat ≤ limit ∧ t.toNat % step = 0 := by
  simpa [settleTimeAccepted, here] using h

theorem timesOk_set {p : PostureMonitor} (times : TimesOk p) {first second : Bool} {strict loose : Half}
    (strictOk : settleTimeAccepted first 2550 10 strict = true) (looseOk : settleTimeAccepted second 25500 100 loose = true) :
    TimesOk { p with strictTime := if first then strict else p.strictTime, looseTime := if second then loose else p.looseTime } := by
  obtain ⟨strictShort, strictStep, looseShort, looseStep⟩ := times
  have strictly : (if first then strict else p.strictTime).toNat ≤ 2550 ∧ (if first then strict else p.strictTime).toNat % 10 = 0 := by
    split
    · next here => exact of_settleTimeAccepted strictOk here
    · exact ⟨strictShort, strictStep⟩
  have loosely : (if second then loose else p.looseTime).toNat ≤ 25500 ∧ (if second then loose else p.looseTime).toNat % 100 = 0 := by
    split
    · next here => exact of_settleTimeAccepted looseOk here
    · exact ⟨looseShort, looseStep⟩
  exact ⟨strictly.1, strictly.2, loosely.1, loosely.2⟩

/-- Full reset is in BAG, and settles to any other raw posture at the default loose time (R81). -/
theorem defaultSettle_eq (p : PinLevels) :
    (rawPosture (Default.levels p) = .bag → Default.settle p = none)
    ∧ (rawPosture (Default.levels p) ≠ .bag → Default.settle p =
        some ⟨rawPosture (Default.levels p), .loose, 3000, if p.motion = true then none else some 3000⟩) := by
  unfold Default.settle
  cases rawPosture (Default.levels p) with
  | bag => exact ⟨fun _ => rfl, fun h => absurd rfl h⟩
  | desk | lap => exact ⟨nofun, fun _ => rfl⟩

theorem defaultPosture_ok (p : PinLevels) : PostureOk (Default.posture p) := by
  have times : TimesOk (Default.posture p) := by
    show (250 : Half).toNat ≤ 2550 ∧ (250 : Half).toNat % 10 = 0 ∧ (3000 : Half).toNat ≤ 25500 ∧ (3000 : Half).toNat % 100 = 0
    decide
  obtain ⟨steady, settling⟩ := defaultSettle_eq p
  by_cases bag : rawPosture (Default.levels p) = .bag
  · exact postureOk_of_steady (steady bag) bag times
  · refine postureOk_of_settling (settling bag) ⟨rfl, bag, ?_, nofun, fun _ => ⟨?_, show (3000 : Half).toNat ≤ 25500 by decide⟩⟩ times
    · refine iff_of_false nofun ?_
      show ¬ 2 < postureIndex (rawPosture (Default.levels p))
      cases rawPosture (Default.levels p) <;> decide
    · show (if p.motion = true then none else some 3000) = none ↔ p.motion = true
      split <;> simp_all

/-! ### The steps -/

theorem ClaimEffect.postureOk {s u : State} {issuer : Requester} {c : Command} (h : ClaimEffect s issuer c u) (ok : PostureOk s.posture) :
    PostureOk u.posture := by
  cases h with
  | setPosture flags strict loose strictOk looseOk =>
    exact ok.congr rfl rfl rfl rfl (timesOk_set ok.steady_or_settling.1 strictOk looseOk)
  | change => split <;> simpa using ok
  | setGovern => dsimp only; split <;> simpa using ok
  | _ => simpa using ok

theorem RowEffect.postureOk {s t : State} {i : Instr} (h : RowEffect s i t) (ok : PostureOk s.posture) : PostureOk t.posture := by
  cases h with
  | fullReset p => simpa [resetBlocks] using defaultPosture_ok p
  | frame _ _ _ effect => cases effect <;> simpa using ok
  | command e u reply _ effect => simpa using effect.postureOk ok
  | postureInputEdge input level => exact postureOk_inputEdge ok input level
  | motionEdge asserted edge => exact postureOk_motionEdge ok edge
  | adapterRises => exact postureOk_adapterEdge ok true
  | adapterFalls => exact postureOk_adapterEdge ok false
  | settleTimerExpiry x settling =>
    obtain ⟨times, ⟨steady, -⟩ | ⟨y, here, candidate, -⟩⟩ := ok.steady_or_settling
    · cases steady.symm.trans settling
    · cases here.symm.trans settling
      exact postureOk_changePosture candidate.symm times
  | _ => simpa using ok

/-- Settles O55: the input edges, the settle timer, SET POSTURE and full reset are the rows that write the Posture Monitor, and each leaves it STEADY in
the raw posture or in a sound settle. -/
theorem stepKeepsPosture : Obligations.StepKeepsPosture := fun _ _ ok next =>
  step_keeps (P := fun s => PostureOk s.posture) (fun _ _ ok => ok) (fun _ ok => ok) (fun _ _ _ effect ok => effect.postureOk ok) next ok

end Sys2Proof.Machine
end

section
/-! SUPPORT. The sequencer, the filters and the Governor's subjects within their tables at every step (R106, R107, R109, R112, R121, R126). -/

namespace Sys2Proof.Machine

/-! ### The sequencer (Table 6-2) -/

theorem sequencerOk_passMicro {q : Sequencer} (ok : SequencerOk q) : SequencerOk (passMicro q) := by
  cases q with
  | starting left => exact (Nat.sub_le left 1).trans ok
  | gap c left => exact ⟨ok.1, (Nat.sub_le left 1).trans ok.2⟩
  | idle | converting c due | spot due resume => exact ok

theorem sequencerOk_beginConversion (now : Moment) (c : Channel) : SequencerOk (beginConversion now c) := trivial

theorem sequencerOk_offerScan {q : Sequencer} (ok : SequencerOk q) : SequencerOk (offerScan q) := by
  cases q with
  | idle => exact le_rfl
  | spot due resume =>
    cases resume with
    | none => intro x here; cases here; exact le_rfl
    | some x => exact ok
  | starting left | converting c due | gap c left => exact ok

/-- A spot check suspends the step that it finds, with the time it has left (R112). -/
theorem sequencerOk_requestSpot {q : Sequencer} (ok : SequencerOk q) (now : Moment) : SequencerOk (requestSpot now q) := by
  cases q with
  | idle => exact nofun
  | starting left | gap c left => intro x here; cases here; exact ok
  | converting c due => intro x here; cases here; exact trivial
  | spot due resume => exact ok

theorem sequencerOk_resumeAt {resume : Option Resume} (ok : ∀ x ∈ resume, ResumeOk x) (now : Moment) : SequencerOk (resumeAt now resume) := by
  cases resume with
  | none => exact trivial
  | some x =>
    have sound := ok x rfl
    cases x with
    | starting left => unfold resumeAt; dsimp only; split <;> [exact trivial; exact sound]
    | converting c => exact trivial
    | gap c left => unfold resumeAt; dsimp only; split <;> [exact trivial; exact sound]

theorem sequencerOk_afterConversion (c : Channel) : SequencerOk (afterConversion c) := by
  unfold afterConversion
  split
  · exact ⟨fun zero => Nat.succ_ne_zero c.val (congrArg Fin.val zero), le_rfl⟩
  · exact trivial

/-! ### Filters (R108, R109) -/

/-- The largest sample: code 1023 at gain 255. -/
theorem sampleOf_le (code : BitVec 10) (gain : Byte) : sampleOf code gain ≤ 1023 * 255 * 8 := by
  have codeMax : code.toNat ≤ 1023 := by have := code.isLt; omega
  have gainMax : gain.toNat ≤ 255 := by have := gain.isLt; omega
  exact Nat.mul_le_mul_right 8 (Nat.mul_le_mul codeMax gainMax)

/-- An update moves a filter towards the sample and not beyond it. -/
theorem updatedFilter_le {filter : Option Nat} {sample bound : Nat} (within : ∀ f ∈ filter, f ≤ bound) (small : sample ≤ bound)
    (k : Fin 13) : updatedFilter filter sample k ≤ bound := by
  unfold updatedFilter
  split
  · exact small
  · next f =>
    have before := within f rfl
    split
    · have := Nat.div_le_self (sample - f) (2 ^ k.val)
      omega
    · exact (Nat.sub_le _ _).trans before

/-! ### The Governor's subjects (R121, R126, R131) -/

@[simp] theorem stepPressure_settings {now : Count} {limit : Option Half} {v : Nat} {g : Governed} :
    (stepPressure now limit v g).riseHold = g.riseHold ∧ (stepPressure now limit v g).fallHold = g.fallHold
    ∧ (stepPressure now limit v g).saturationTime = g.saturationTime ∧ (stepPressure now limit v g).runStart = g.runStart
    ∧ (stepPressure now limit v g).saturated = g.saturated := by
  rw [stepPressure_eq]
  exact ⟨rfl, rfl, rfl, rfl, rfl⟩

/-- The judgement of the run leaves a run at pressure 15 alone, whatever pressure the step made. -/
theorem governedOk_judgeRun {now : Count} {limit : Option Half} {v : Nat} {g : Governed}
    (flag : g.saturated → g.runStart.isSome ∧ g.saturationTime ≠ 0) (rise : g.riseHold ≠ 0) (fall : g.fallHold ≠ 0) :
    GovernedOk (judgeRun now limit v g) := by
  by_cases held : RunHolds limit v g
  · cases run : g.runStart with
    | none =>
      rw [judgeRun_begins held run]
      exact ⟨fun _ => held.1, fun saturated => ⟨rfl, (flag saturated).2⟩, rise, fall⟩
    | some start =>
      have running : g.runStart.isSome = true := by rw [run]; rfl
      rw [judgeRun_continues held run]
      split
      · next lasted => exact ⟨fun _ => held.1, fun _ => ⟨running, lasted.1⟩, rise, fall⟩
      · exact ⟨fun _ => held.1, flag, rise, fall⟩
  · by_cases run : g.runStart = none
    · rw [judgeRun_nothing held run]
      exact ⟨fun running => (by rw [run] at running; cases running), flag, rise, fall⟩
    · rw [judgeRun_ends held run]
      exact ⟨nofun, nofun, rise, fall⟩

theorem governedOk_evaluated {now : Count} {limit : Option Half} {v : Nat} {g : Governed} (ok : GovernedOk g) :
    GovernedOk (judgeRun now limit v (stepPressure now limit v g)) := by
  obtain ⟨-, flag, rise, fall⟩ := ok
  obtain ⟨sameRise, sameFall, sameTime, sameRun, sameFlag⟩ := stepPressure_settings (now := now) (limit := limit) (v := v) (g := g)
  exact governedOk_judgeRun (by rw [sameFlag, sameRun, sameTime]; exact flag) (by rwa [sameRise]) (by rwa [sameFall])

/-- A SET GOVERN keeps a flag only with the saturation time under which it was set (R132). -/
theorem governedOk_governedBy {f : GovernFields} {g : Governed} (ok : GovernedOk g) (rise : f.riseHold ≠ 0) (fall : f.fallHold ≠ 0) :
    GovernedOk (governedBy f g) := by
  obtain ⟨run, flag, -, -⟩ := ok
  unfold governedBy
  dsimp only
  by_cases ends : f.saturationTime ≠ g.saturationTime ∧ g.saturationTime ≠ 0
  · simp only [if_pos ends]
    exact ⟨nofun, nofun, rise, fall⟩
  · simp only [if_neg ends]
    refine ⟨run, fun saturated => ?_, rise, fall⟩
    obtain ⟨running, timed⟩ := flag saturated
    have sameTime : f.saturationTime = g.saturationTime := not_not.1 fun different => ends ⟨different, timed⟩
    exact ⟨running, sameTime ▸ timed⟩

/-! ### The three together -/

/-- They depend on the sequencer, the filters and the subjects of the Governor. -/
theorem MeasureOk.congr {s t : State} (ok : MeasureOk s) (sequencer : t.measure.sequencer = s.measure.sequencer)
    (filters : t.measure.filters = s.measure.filters) (subjects : t.governor.subjects = s.governor.subjects) : MeasureOk t := by
  unfold MeasureOk
  rw [sequencer, filters, subjects]
  exact ok

theorem measureOk_withSequencer {s : State} (ok : MeasureOk s) {q : Sequencer} (sound : SequencerOk q) : MeasureOk (s.withSequencer q) :=
  ⟨sound, ok.2⟩

theorem measureOk_withSubject {s t : State} (ok : MeasureOk s) {m : Measured} {g : Governed} (sound : GovernedOk g)
    (measure : t.measure = s.measure) (subjects : t.governor.subjects = s.governor.subjects.set m g) : MeasureOk t := by
  obtain ⟨sequencer, filters, governed⟩ := ok
  refine ⟨by rwa [measure], by rwa [measure], fun x => ?_⟩
  rw [subjects]
  by_cases same : m = x
  · subst same; simpa using sound
  · simpa [Fin.val_ne_of_ne same] using governed x

theorem measureOk_evaluate {s : State} (ok : MeasureOk s) (m : Measured) (v : Nat) : MeasureOk (evaluate s m v) :=
  measureOk_withSubject ok (governedOk_evaluated (ok.2.2 m)) (evaluate_measure s m v) (evaluate_subjects s m v)

/-- A filter written within its range. -/
theorem measureOk_withFilter {s : State} (ok : MeasureOk s) (m : Measured) {f : Nat} (small : f ≤ 1023 * 255 * 8) :
    MeasureOk (s.withMeasure { s.measure with filters := s.measure.filters.set m (some f) }) := by
  obtain ⟨sequencer, filters, governed⟩ := ok
  refine ⟨sequencer, fun x old here => ?_, governed⟩
  by_cases same : m = x
  · subst same
    simp only [State.withMeasure_measure, Fin.getElem_fin, Vector.getElem_set_self, Option.mem_def, Option.some.injEq] at here
    exact here ▸ small
  · exact filters x old (by simpa [Fin.val_ne_of_ne same] using here)

theorem measureOk_filterUpdate {s : State} (ok : MeasureOk s) (code : BitVec 10) (m : Measured) : MeasureOk (filterUpdate s code m) :=
  measureOk_evaluate (measureOk_withFilter ok m (updatedFilter_le (ok.2.1 m) (sampleOf_le code _) _)) m _

/-! ### The steps -/

theorem ClaimEffect.measureOk {s u : State} {issuer : Requester} {c : Command} (h : ClaimEffect s issuer c u) (ok : MeasureOk s) :
    MeasureOk u := by
  cases h with
  | change => split <;> exact ok.congr (by simp) (by simp) (by simp)
  | setGovern f m rise fall =>
    have sound := governedOk_governedBy (ok.2.2 m) rise fall
    dsimp only
    split
    · exact measureOk_withSubject (m := m) ok sound (by simp) (by simp)
    · exact measureOk_withSubject ok sound rfl rfl
  | _ => exact ok.congr (by simp) (by simp) (by simp)

theorem measureOk_resetBlocks (p : PinLevels) (s : State) : MeasureOk (resetBlocks p s) := by
  have subjects : ∀ m : Measured, GovernedOk Default.governor.subjects[m] := by
    unfold GovernedOk
    decide
  exact ⟨trivial, fun m f here => by simp [resetBlocks, Default.measure] at here, subjects⟩

theorem RowEffect.measureOk {s t : State} {i : Instr} (h : RowEffect s i t) (ok : MeasureOk s) : MeasureOk t := by
  cases h with
  | fullReset p => exact (measureOk_resetBlocks p s).congr (by simp) (by simp) (by simp)
  | frame _ _ _ effect => cases effect <;> exact ok.congr (by simp) (by simp) (by simp)
  | command e u reply _ effect => exact (effect.measureOk ok).congr (by simp) (by simp) (by simp)
  | adapterFalls =>
    have kept : MeasureOk (keepEdge s adapterIndex false) := ok
    exact measureOk_withSequencer kept (sequencerOk_requestSpot ok.1 _)
  | scanTimerExpiry => exact ⟨sequencerOk_offerScan ok.1, ok.2⟩
  | startStepEnd => exact measureOk_withSequencer ok (sequencerOk_beginConversion _ _)
  | gapEnd => exact measureOk_withSequencer ok (sequencerOk_beginConversion _ _)
  | conversionCompletion code c =>
    refine measureOk_withSequencer ?_ (sequencerOk_afterConversion c)
    exact scanCompletion_preserves (P := MeasureOk) (fun _ _ h => h) (fun _ code m h => measureOk_filterUpdate h code m)
      (fun _ _ h => h.congr (by simp) (by simp) (by simp)) (fun _ _ _ h => h) (fun _ h => h.congr (by simp) (by simp) (by simp))
      (fun _ _ h => h) ok c code
  | spotCompletion code resume spot =>
    have sound : SequencerOk (.spot s.timebase resume) := spot ▸ ok.1
    refine measureOk_withSequencer ?_ (sequencerOk_resumeAt sound _)
    exact completion_preserves (P := MeasureOk) (fun _ _ h => h) (fun _ code m h => measureOk_filterUpdate h code m)
      (fun _ _ h => h.congr (by simp) (by simp) (by simp)) (fun _ _ h => h) ok spotChannel code
  | _ => exact ok.congr (by simp) (by simp) (by simp)

/-- Settles O56: the tick counts a step's time down, the sequencer's rows move it along Table 6-2, and a completion updates filters and subjects within
their ranges. -/
theorem stepKeepsMeasurement : Obligations.StepKeepsMeasurement := fun _ _ ok next =>
  step_keeps (P := MeasureOk) (fun _ _ ok => ok) (fun _ ok => ⟨sequencerOk_passMicro ok.1, ok.2⟩)
    (fun _ _ _ effect ok => effect.measureOk ok) next ok

end Sys2Proof.Machine
end

section
/-! SUPPORT. The Trip Unit and the outputs sound at every step (R127, R137, R141, R150 to R155): soundness but for the sources not yet judged afresh,
which a changed input, setting or code makes stale and a judgement makes good. -/

namespace Sys2Proof.Machine

/-! ### Latching (R152 to R155) -/

section
variable (now : Count) (grave : Bool) (t : TripUnit)

theorem escalate_ne_armed : (escalate now grave t).state ≠ .armed := by
  unfold escalate enterStopping
  cases state : t.state with
  | armed | tripped =>
    dsimp only
    split
    · split <;> nofun
    · nofun
  | stopping | stopped | off => simp [state]

/-- STOPPING is entered with the stop timer running, and with an acknowledgement asserted it is passed over without one (R155). -/
theorem escalate_stopTimer (timer : t.stopTimer.isSome ↔ t.state = .stopping) :
    (escalate now grave t).stopTimer.isSome ↔ (escalate now grave t).state = .stopping := by
  unfold escalate enterStopping
  cases state : t.state with
  | armed | tripped =>
    have idle : ¬ t.stopTimer.isSome := by rw [timer, state]; nofun
    dsimp only
    split
    · split
      · exact iff_of_false idle nofun
      · exact iff_of_true rfl rfl
    · exact iff_of_false idle nofun
  | stopping | stopped | off => simp [state, timer]

end

/-- The sources that become active are latched already or now. -/
theorem active_subset_latched {active was latched : SourceSet} (within : was &&& latched = was) :
    active &&& (latched ||| (active &&& ~~~was &&& ~~~latched)) = active := by
  apply BitVec.eq_of_getLsbD_eq
  intro i hi
  have bit : (was.getLsbD i && latched.getLsbD i) = was.getLsbD i := BitVec.getLsbD_and.symm.trans (congrArg (·.getLsbD i) within)
  simp only [BitVec.getLsbD_and, BitVec.getLsbD_or, BitVec.getLsbD_not, hi, decide_true, Bool.true_and]
  revert bit
  cases active.getLsbD i <;> cases was.getLsbD i <;> cases latched.getLsbD i <;> decide

theorem tripOk_latch {t : TripUnit} (ok : TripOk t) (now : Count) {active : SourceSet}
    (rises : active &&& ~~~t.active &&& ~~~t.latched ≠ 0) :
    TripOk (latch now (active &&& ~~~t.active &&& ~~~t.latched) { t with active := active }) := by
  obtain ⟨within, -, timer, timeout⟩ := ok
  have notArmed := escalate_ne_armed now (t.stopClass &&& (active &&& ~~~t.active &&& ~~~t.latched) != 0)
  have timing := escalate_stopTimer now (t.stopClass &&& (active &&& ~~~t.active &&& ~~~t.latched) != 0)
  rw [latch_eq]
  refine ⟨active_subset_latched within, iff_of_false (notArmed _) fun empty => rises ?_, timing _ timer, timeout⟩
  exact (BitVec.or_eq_zero_iff.1 empty).2

theorem tripOk_withActive {t : TripUnit} (ok : TripOk t) {active : SourceSet} (still : active &&& ~~~t.active &&& ~~~t.latched = 0) :
    TripOk { t with active := active } := by
  obtain ⟨within, armed, timer, timeout⟩ := ok
  refine ⟨?_, armed, timer, timeout⟩
  have subset := active_subset_latched (active := active) within
  rw [still] at subset
  simpa using subset

theorem tripOk_judgeSources {s : State} (ok : TripOk s.trip) (which : SourceSet) : TripOk (judgeSources s which).trip := by
  obtain ⟨latching, changing, still⟩ := judgeSources_cases s which
  by_cases new : judgedActive s which &&& ~~~s.trip.active &&& ~~~s.trip.latched = 0
  · by_cases same : judgedActive s which = s.trip.active
    · rw [still new same]; exact ok
    · rw [changing new same]; exact tripOk_withActive ok new
  · rw [latching new]; exact tripOk_latch ok _ new

/-! ### The outputs (R141) -/

/-- An output sound under two sets: its periods are not 0 and it is FORCED exactly while its condition holds. -/
def OutputOk (active latched : SourceSet) (o : Output) : Prop :=
  o.period ≠ 0 ∧ o.staged ≠ some 0 ∧ (o.state = .forced ↔ forceCondition active latched o = true)

theorem outputsOk_iff {s : State} : OutputsOk s ↔ ∀ ix : OutputIx, OutputOk s.trip.active s.trip.latched s.outputs[ix] := Iff.rfl

/-- The condition reads the mask and the restart mode, which a judgement leaves. -/
theorem forceCondition_judgeOutput (active latched : SourceSet) (o : Output) :
    forceCondition active latched (judgeOutput active latched o) = forceCondition active latched o := by
  rw [judgeOutput_eq]
  rfl

theorem outputOk_judgeOutput {active latched : SourceSet} {o : Output} (period : o.period ≠ 0) (staged : o.staged ≠ some 0) :
    OutputOk active latched (judgeOutput active latched o) := by
  refine ⟨?_, ?_, ?_⟩
  · rw [judgeOutput_eq]; exact period
  · rw [judgeOutput_eq]; exact staged
  · rw [judgeOutput_forced, forceCondition_judgeOutput]

theorem outputOk_endPeriod {active latched : SourceSet} {o : Output} (ok : OutputOk active latched o) (target : Level) :
    OutputOk active latched (endPeriod target o) := by
  obtain ⟨period, staged, forced⟩ := ok
  have inForce : o.staged.getD o.period ≠ 0 := by
    cases pending : o.staged with
    | none => exact period
    | some p => exact fun zero => staged (pending.trans (congrArg some zero))
  unfold endPeriod
  cases state : o.state with
  | forced => exact ⟨inForce, nofun, iff_of_true rfl (forced.1 state)⟩
  | tracking | releasing => exact ⟨inForce, nofun, iff_of_false nofun fun holds => by rw [forced.2 holds] at state; cases state⟩

theorem outputs_set_get (v : Vector Output 4) (i j : OutputIx) (o : Output) : (v.set i o)[j] = if i = j then o else v[j] := by
  by_cases same : i = j
  · subst same; simp
  · simp [same, Fin.val_ne_of_ne same]

theorem outputsOk_set {s : State} (ok : OutputsOk s) {ix : OutputIx} {o : Output} (sound : OutputOk s.trip.active s.trip.latched o) :
    OutputsOk (s.withOutputs (s.outputs.set ix o)) := by
  intro x
  show OutputOk s.trip.active s.trip.latched (s.outputs.set ix o)[x]
  rw [outputs_set_get]
  split
  · exact sound
  · exact ok x

/-- After a hand-over every output follows its condition, whatever it did before. -/
theorem outputsOk_handOver {s : State} (periods : ∀ ix : OutputIx, s.outputs[ix].period ≠ 0 ∧ s.outputs[ix].staged ≠ some 0) :
    OutputsOk (handOver s) := by
  intro ix
  rw [handOver_output]
  exact outputOk_judgeOutput (periods ix).1 (periods ix).2

theorem OutputsOk.periods {s : State} (ok : OutputsOk s) (ix : OutputIx) : s.outputs[ix].period ≠ 0 ∧ s.outputs[ix].staged ≠ some 0 :=
  ⟨(ok ix).1, (ok ix).2.1⟩

theorem OutputsOk.congr {s t : State} (ok : OutputsOk s) (outputs : t.outputs = s.outputs) (active : t.trip.active = s.trip.active)
    (latched : t.trip.latched = s.trip.latched) : OutputsOk t := by
  intro ix
  rw [outputs, active, latched]
  exact ok ix

theorem outputsOk_judgeSources {s : State} (ok : OutputsOk s) (which : SourceSet) : OutputsOk (judgeSources s which) := by
  obtain ⟨latching, changing, still⟩ := judgeSources_cases s which
  by_cases new : judgedActive s which &&& ~~~s.trip.active &&& ~~~s.trip.latched = 0
  · by_cases same : judgedActive s which = s.trip.active
    · rw [still new same]; exact ok
    · rw [changing new same]; exact outputsOk_handOver ok.periods
  · rw [latching new]
    have handed : OutputsOk (handOver (s.withTrip (latch s.timebase.count
        (judgedActive s which &&& ~~~s.trip.active &&& ~~~s.trip.latched) { s.trip with active := judgedActive s which }))) :=
      outputsOk_handOver ok.periods
    exact handed.congr rfl rfl rfl

/-! ### Soundness but for stale sources -/

/-- The Trip Unit and the outputs are sound, and the active set is the judged one but for some stale sources. -/
def TripSound (stale : Source → Prop) (s : State) : Prop :=
  TripOk s.trip ∧ OutputsOk s
  ∧ ∀ src : Source, ¬ stale src → s.trip.active.getLsbD src.val = (judgedSet s.trip s.measure.latest).getLsbD src.val

/-- The saturated set in the Trip Unit is the Governor's (R127). -/
def SaturatedHanded (s : State) : Prop := s.trip.saturated = saturatedSet s.governor

theorem tripSound_none_iff {s : State} :
    TripSound (fun _ => False) s ∧ SaturatedHanded s ↔ TripOk s.trip ∧ ActiveOk s ∧ OutputsOk s := by
  constructor
  · rintro ⟨⟨trip, outputs, judged⟩, saturated⟩
    exact ⟨trip, ⟨BitVec.eq_of_getLsbD_eq fun i hi => judged ⟨i, hi⟩ not_false, saturated⟩, outputs⟩
  · rintro ⟨trip, ⟨judged, saturated⟩, outputs⟩
    exact ⟨⟨trip, outputs, fun src _ => congrArg (·.getLsbD src.val) judged⟩, saturated⟩

theorem TripSound.mono {stale stale' : Source → Prop} {s : State} (ok : TripSound stale s) (fewer : ∀ src, stale src → stale' src) :
    TripSound stale' s :=
  ⟨ok.1, ok.2.1, fun src notStale => ok.2.2 src (mt (fewer src) notStale)⟩

theorem TripSound.congr {stale : Source → Prop} {s t : State} (ok : TripSound stale s) (trip : t.trip = s.trip)
    (outputs : t.outputs = s.outputs) (latest : t.measure.latest = s.measure.latest) : TripSound stale t := by
  obtain ⟨tripOk, outputsOk, judged⟩ := ok
  refine ⟨by rwa [trip], outputsOk.congr outputs (by rw [trip]) (by rw [trip]), fun src notStale => ?_⟩
  rw [trip, latest]
  exact judged src notStale

theorem judgedActive_getLsbD (s : State) (which : SourceSet) (src : Source) :
    (judgedActive s which).getLsbD src.val =
      if which.getLsbD src.val = true then (judgedSet s.trip s.measure.latest).getLsbD src.val else s.trip.active.getLsbD src.val := by
  simp only [judgedActive, BitVec.getLsbD_or, BitVec.getLsbD_and, BitVec.getLsbD_not, src.isLt, decide_true, Bool.true_and]
  cases which.getLsbD src.val <;> simp

/-- Judging sources writes nothing that the judged set reads. -/
theorem judgedSet_judgeSources (s : State) (which : SourceSet) :
    judgedSet (judgeSources s which).trip (judgeSources s which).measure.latest = judgedSet s.trip s.measure.latest := by
  obtain ⟨overtemp, -, saturated, enable, -, levels, -⟩ := judgeSources_settings s which
  rw [judgeSources_measure]
  exact judgedSet_congr enable levels overtemp saturated

/-- Sources judged are stale no longer. -/
theorem tripSound_judgeSources {stale : Source → Prop} {s : State} (ok : TripSound stale s) (which : SourceSet) :
    TripSound (fun src => stale src ∧ which.getLsbD src.val = false) (judgeSources s which) := by
  obtain ⟨tripOk, outputsOk, judged⟩ := ok
  refine ⟨tripOk_judgeSources tripOk which, outputsOk_judgeSources outputsOk which, fun src notStale => ?_⟩
  rw [judgeSources_active, judgedSet_judgeSources, judgedActive_getLsbD]
  split
  · rfl
  · next unjudged => exact judged src fun staleSrc => notStale ⟨staleSrc, Bool.eq_false_iff.2 unjudged⟩

/-- A single stale source that is judged leaves none. -/
theorem tripSound_judge_one {stale : Source → Prop} {s : State} {src : Source} (ok : TripSound stale s) (only : ∀ x, stale x → x = src) :
    TripSound (fun _ => False) (judgeSources s (sourceBit src)) := by
  refine (tripSound_judgeSources ok (sourceBit src)).mono ?_
  rintro x ⟨staleX, unjudged⟩
  have here : (sourceBit src).getLsbD src.val = true := by simp [sourceBit]
  rw [only x staleX, here] at unjudged
  cases unjudged

theorem saturatedHanded_judgeSources {s : State} (ok : SaturatedHanded s) (which : SourceSet) : SaturatedHanded (judgeSources s which) := by
  unfold SaturatedHanded
  rw [(judgeSources_settings s which).2.2.1, judgeSources_governor]
  exact ok

/-! ### What makes a source stale -/

/-- A source's condition reads the code and the level of its own channel, the level of OVERTEMP, or the saturated set (R150). -/
theorem sourceCondition_congr {t t' : TripUnit} {latest latest' : Vector (Option (BitVec 10)) 9} {src : Source} (levels : t'.levels = t.levels)
    (code : ∀ h : src.val < 9, latest'[src.val] = latest[src.val]) (overtemp : src = overtempSource → t'.overtemp = t.overtemp)
    (saturated : src = satSource → t'.saturated = t.saturated) : sourceCondition t' latest' src = sourceCondition t latest src := by
  unfold sourceCondition
  split
  · next channel => rw [code channel, levels]
  · split
    · next nine => rw [overtemp (Fin.ext nine)]
    · next notChannel notNine => rw [saturated (Fin.ext (show src.val = 10 by omega))]

/-- A change of the inputs leaves the judgement of the sources that do not read them. -/
theorem TripSound.inputs {stale : Source → Prop} {s t : State} (ok : TripSound stale s)
    (trip : t.trip = { s.trip with overtemp := t.trip.overtemp, saturated := t.trip.saturated }) (outputs : t.outputs = s.outputs)
    (code : ∀ src : Source, ¬ stale src → ∀ h : src.val < 9, t.measure.latest[src.val] = s.measure.latest[src.val])
    (overtemp : ¬ stale overtempSource → t.trip.overtemp = s.trip.overtemp)
    (saturated : ¬ stale satSource → t.trip.saturated = s.trip.saturated) : TripSound stale t := by
  obtain ⟨tripOk, outputsOk, judged⟩ := ok
  have active : t.trip.active = s.trip.active := by rw [trip]
  have latched : t.trip.latched = s.trip.latched := by rw [trip]
  have enable : t.trip.enable = s.trip.enable := by rw [trip]
  have levels : t.trip.levels = s.trip.levels := by rw [trip]
  refine ⟨by rw [trip]; exact tripOk, outputsOk.congr outputs active latched, fun src notStale => ?_⟩
  rw [judgedSet_getLsbD, active, enable, judged src notStale, judgedSet_getLsbD,
    sourceCondition_congr levels (code src notStale) (fun h => overtemp (h ▸ notStale)) (fun h => saturated (h ▸ notStale))]

/-- The hand-over of the saturated set makes SAT stale and judges it (R127, R151). -/
theorem tripSound_handSaturated {stale : Source → Prop} {s : State} (ok : TripSound stale s) :
    TripSound stale (handSaturated s) ∧ SaturatedHanded (handSaturated s) := by
  have written : TripSound (fun src => stale src ∨ src = satSource) (s.withTrip { s.trip with saturated := saturatedSet s.governor }) :=
    (ok.mono fun _ => .inl).inputs rfl rfl (fun _ _ _ => rfl) (fun _ => rfl) fun notStale => absurd (.inr rfl) notStale
  have handed : SaturatedHanded (s.withTrip { s.trip with saturated := saturatedSet s.governor }) := rfl
  refine ⟨(tripSound_judgeSources written (sourceBit satSource)).mono ?_, saturatedHanded_judgeSources handed _⟩
  rintro src ⟨staleSrc | rfl, unjudged⟩
  · exact staleSrc
  · rw [show (sourceBit satSource).getLsbD satSource.val = true by decide] at unjudged
    cases unjudged

theorem SaturatedHanded.congr {s t : State} (ok : SaturatedHanded s) (saturated : t.trip.saturated = s.trip.saturated)
    (subjects : ∀ m : Measured, t.governor.subjects[m].saturated = s.governor.subjects[m].saturated) : SaturatedHanded t := by
  unfold SaturatedHanded saturatedSet
  rw [saturated, show (fun m : Measured => t.governor.subjects[m].saturated) = fun m => s.governor.subjects[m].saturated from funext subjects]
  exact ok

/-- A subject written with its flag kept leaves the saturated set. -/
theorem saturated_withSubject {v : Vector Governed 9} {m : Measured} {g : Governed} (flag : g.saturated = v[m].saturated) (x : Measured) :
    (v.set m g)[x].saturated = v[x].saturated := by
  by_cases same : m = x
  · subst same; simpa using flag
  · simp [Fin.val_ne_of_ne same]

/-- Both: sound but for stale sources, with the saturated set handed over. -/
def TripHolds (stale : Source → Prop) (s : State) : Prop := TripSound stale s ∧ SaturatedHanded s

theorem TripHolds.congr {stale : Source → Prop} {s t : State} (ok : TripHolds stale s) (trip : t.trip = s.trip)
    (outputs : t.outputs = s.outputs) (latest : t.measure.latest = s.measure.latest)
    (subjects : t.governor.subjects = s.governor.subjects) : TripHolds stale t :=
  ⟨ok.1.congr trip outputs latest, ok.2.congr (by rw [trip]) fun m => by rw [subjects]⟩

theorem TripHolds.mono {stale stale' : Source → Prop} {s : State} (ok : TripHolds stale s) (fewer : ∀ src, stale src → stale' src) :
    TripHolds stale' s := ⟨ok.1.mono fewer, ok.2⟩

theorem tripHolds_judgeSources {stale : Source → Prop} {s : State} (ok : TripHolds stale s) (which : SourceSet) :
    TripHolds stale (judgeSources s which) :=
  ⟨(tripSound_judgeSources ok.1 which).mono fun _ h => h.1, saturatedHanded_judgeSources ok.2 which⟩

theorem tripHolds_judge_one {stale : Source → Prop} {s : State} {src : Source} (ok : TripHolds stale s) (only : ∀ x, stale x → x = src) :
    TripHolds (fun _ => False) (judgeSources s (sourceBit src)) :=
  ⟨tripSound_judge_one ok.1 only, saturatedHanded_judgeSources ok.2 _⟩

/-- A subject written hands the saturated set over exactly where its flag changes (R124, R132). -/
theorem tripHolds_withSubject {stale : Source → Prop} {s u : State} (ok : TripHolds stale s) {m : Measured} {g : Governed}
    (trip : u.trip = s.trip) (outputs : u.outputs = s.outputs) (latest : u.measure.latest = s.measure.latest)
    (subjects : u.governor.subjects = s.governor.subjects.set m g) :
    TripHolds stale (if g.saturated ≠ s.governor.subjects[m].saturated then handSaturated u else u) := by
  have sound := ok.1.congr trip outputs latest
  split
  · exact tripSound_handSaturated sound
  · next same =>
    refine ⟨sound, ok.2.congr (by rw [trip]) fun x => ?_⟩
    rw [subjects]
    exact saturated_withSubject (not_not.1 same) x

theorem tripHolds_evaluate {stale : Source → Prop} {s : State} (ok : TripHolds stale s) (m : Measured) (v : Nat) :
    TripHolds stale (evaluate s m v) := by
  unfold evaluate
  dsimp only
  refine tripHolds_withSubject (m := m) ok ?_ ?_ ?_ ?_ <;> split <;> simp

theorem tripHolds_filterUpdate {stale : Source → Prop} {s : State} (ok : TripHolds stale s) (code : BitVec 10) (m : Measured) :
    TripHolds stale (filterUpdate s code m) := by
  have written : ∀ x, TripHolds stale (s.withMeasure { s.measure with filters := x }) := fun _ => ok.congr rfl rfl rfl rfl
  exact tripHolds_evaluate (written _) m _

theorem tripHolds_takePeriodEnd {stale : Source → Prop} {s : State} (ok : TripHolds stale s) (ix : OutputIx) :
    TripHolds stale (takePeriodEnd s ix) := by
  obtain ⟨⟨tripOk, outputsOk, judged⟩, saturated⟩ := ok
  exact ⟨⟨tripOk, outputsOk_set outputsOk (outputOk_endPeriod (outputsOk ix) _), judged⟩, saturated⟩

/-! ### Completions (R101, R125) -/

theorem tripHolds_takePart {stale : Source → Prop} {s : State} (ok : TripHolds stale s) (code : BitVec 10) (part : CompletionPart) :
    TripHolds stale (takePart code s part) := by
  cases part with
  | evaluation m => exact tripHolds_filterUpdate ok code m
  | judgement => exact tripHolds_judgeSources ok _
  | periodEnd ix => exact tripHolds_takePeriodEnd ok ix
  | readGovernor =>
    show TripHolds stale (respond (readGovernorClaim s))
    exact ok.congr (by simp) (by simp) (by simp) (by simp)

/-- A new code makes the source of its channel stale. -/
theorem tripHolds_latest {s : State} (ok : TripHolds (fun _ => False) s) (c : Channel) (code : BitVec 10) :
    TripHolds (fun src => src = c.castSucc.castSucc)
      (s.withMeasure { s.measure with latest := s.measure.latest.set c (some code) }) := by
  refine ⟨(ok.1.mono fun _ => False.elim).inputs rfl rfl (fun src other channel => ?_) (fun _ => rfl) fun _ => rfl, ok.2⟩
  have ne : c.val ≠ src.val := fun same => other (Fin.ext same.symm)
  simp [ne]

/-- The judgement of a completion's channel makes it good, before the evaluations or after them. -/
theorem tripHolds_completion {s : State} (ok : TripHolds (fun _ => False) s) (c : Channel) (code : BitVec 10) :
    TripHolds (fun _ => False) (completion s c code) := by
  have latest := tripHolds_latest ok c code
  have updates : ∀ {stale : Source → Prop} {u : State}, TripHolds stale u →
      TripHolds stale ((feeds c).foldl (fun s m => filterUpdate s code m) u) :=
    fun {stale} _ h => foldl_preserves (P := TripHolds stale) (fun _ m _ h => tripHolds_filterUpdate h code m) h
  suffices either : TripHolds (fun _ => False) (eitherOrder (fun s => (feeds c).foldl (fun s m => filterUpdate s code m) s)
      (fun s => judgeSources s (sourceBit c.castSucc.castSucc))
      (s.withMeasure { s.measure with latest := s.measure.latest.set c (some code) })) from either.congr rfl rfl rfl rfl
  rcases eitherOrder_cases (s.withMeasure { s.measure with latest := s.measure.latest.set c (some code) })
    (fun s => (feeds c).foldl (fun s m => filterUpdate s code m) s) (fun s => judgeSources s (sourceBit c.castSucc.castSucc)) with h | h
  · rw [h]; exact tripHolds_judge_one (updates latest) fun _ => id
  · rw [h]; exact updates (tripHolds_judge_one latest fun _ => id)

theorem tripHolds_scanCompletion {s : State} (ok : TripHolds (fun _ => False) s) (c : Channel) (code : BitVec 10) :
    TripHolds (fun _ => False) (scanCompletion s c code) := by
  unfold scanCompletion
  split
  · obtain ⟨order, perm, parts⟩ := completionAround_parts s code (readersWithin s)
    have judged : CompletionPart.judgement ∈ order := perm.mem_iff.2 (by simp)
    obtain ⟨before, after, rfl⟩ := List.append_of_mem judged
    have takes : ∀ {stale : Source → Prop} {u : State} (l : List CompletionPart), TripHolds stale u →
        TripHolds stale (l.foldl (takePart code) u) :=
      fun {stale} _ _ h => foldl_preserves (P := TripHolds stale) (fun _ part _ h => tripHolds_takePart h code part) h
    have judgedNow := tripHolds_judge_one (takes before (tripHolds_latest ok 0 code)) fun _ => id
    rw [parts, List.foldl_append, List.foldl_cons]
    exact (takes after judgedNow).congr rfl rfl rfl rfl
  · exact tripHolds_completion ok c code

/-! ### The commands and the handshake -/

theorem of_outputSettingsOf {f : OutputFields} {x : OutputSettings} (h : outputSettingsOf f = some x) : x.period ≠ 0 := by
  unfold outputSettingsOf at h
  split at h
  · split at h
    · next nonzero => cases h; exact nonzero
    · cases h
  · cases h

theorem of_tripSettingsOf {w : BitVec 128} {x : TripSettings} (h : tripSettingsOf w = some x) : x.stopTimeout ≠ 0 := by
  unfold tripSettingsOf at h
  split at h
  · next accepted => cases h; exact accepted.2.2
  · cases h

theorem tripHolds_resume {s : State} (ok : TripHolds (fun _ => False) s) (state : s.trip.state = .tripped ∨ s.trip.state = .stopped)
    (clear : s.trip.latched &&& s.trip.active = 0) :
    TripHolds (fun _ => False) (handOver (s.withTrip { s.trip with state := .armed, latched := 0 })) := by
  obtain ⟨⟨⟨within, -, timer, timeout⟩, outputsOk, judged⟩, saturated⟩ := ok
  have none : s.trip.active = 0 := by rw [← within, BitVec.and_comm]; exact clear
  have idle : ¬ s.trip.stopTimer.isSome := by
    rw [timer]
    rcases state with h | h <;> rw [h] <;> nofun
  refine ⟨⟨⟨?_, iff_of_true rfl rfl, iff_of_false idle nofun, timeout⟩, outputsOk_handOver outputsOk.periods, judged⟩, saturated⟩
  show s.trip.active &&& 0 = s.trip.active
  rw [none]
  rfl

theorem tripHolds_setTrip {s : State} (ok : TripHolds (fun _ => False) s) {x : TripSettings} (timeout : x.stopTimeout ≠ 0) :
    TripHolds (fun _ => False) (judgeSources
      (s.withTrip { s.trip with enable := x.enable, stopClass := x.stopClass, levels := x.levels, stopTimeout := x.stopTimeout })
      (BitVec.allOnes 11)) := by
  obtain ⟨⟨⟨within, armed, timer, -⟩, outputsOk, -⟩, saturated⟩ := ok
  have written : TripHolds (fun _ => True)
      (s.withTrip { s.trip with enable := x.enable, stopClass := x.stopClass, levels := x.levels, stopTimeout := x.stopTimeout }) :=
    ⟨⟨⟨within, armed, timer, timeout⟩, outputsOk, fun _ notStale => absurd trivial notStale⟩, saturated⟩
  refine ⟨(tripSound_judgeSources written.1 _).mono ?_, saturatedHanded_judgeSources written.2 _⟩
  rintro src ⟨-, unjudged⟩
  rw [BitVec.getLsbD_allOnes, decide_eq_true src.isLt] at unjudged
  cases unjudged

theorem tripHolds_setOutput {s : State} (ok : TripHolds (fun _ => False) s) {x : OutputSettings} (period : x.period ≠ 0) :
    TripHolds (fun _ => False) (s.withOutputs (s.outputs.set x.output (outputSet s.trip x s.outputs[x.output]))) := by
  obtain ⟨⟨tripOk, outputsOk, judged⟩, saturated⟩ := ok
  refine ⟨⟨tripOk, outputsOk_set outputsOk (outputOk_judgeOutput (outputsOk x.output).1 ?_), judged⟩, saturated⟩
  dsimp only
  split
  · nofun
  · exact fun zero => period (Option.some.inj zero)

/-- A state of the handshake written with the sets, settings and inputs but STOP_ACK kept. -/
theorem tripHolds_handshake {s : State} (ok : TripHolds (fun _ => False) s) {t : TripUnit}
    (eq : t = { s.trip with state := t.state, stopTimer := t.stopTimer, stopAck := t.stopAck })
    (armed : t.state = .armed ↔ s.trip.state = .armed) (timer : t.stopTimer.isSome ↔ t.state = .stopping) :
    TripHolds (fun _ => False) (s.withTrip t) := by
  obtain ⟨⟨⟨within, wasArmed, -, timeout⟩, outputsOk, judged⟩, saturated⟩ := ok
  rw [eq]
  exact ⟨⟨⟨within, armed.trans wasArmed, timer, timeout⟩, outputsOk, judged⟩, saturated⟩

theorem tripHolds_acknowledge {s : State} (ok : TripHolds (fun _ => False) s) (asserted : Bool) :
    TripHolds (fun _ => False) (s.withTrip (acknowledge asserted s.trip)) := by
  have timer := ok.1.1.2.2.1
  by_cases ends : asserted = true ∧ s.trip.state = .stopping
  · obtain ⟨rfl, stopping⟩ := ends
    rw [acknowledge_true_of_stopping stopping]
    exact tripHolds_handshake ok rfl (iff_of_false nofun (by rw [stopping]; nofun)) (iff_of_false nofun nofun)
  · rw [acknowledge_keeps_level (by
      cases asserted
      · exact .inl rfl
      · exact .inr fun stopping => ends ⟨rfl, stopping⟩)]
    exact tripHolds_handshake ok rfl Iff.rfl timer

theorem tripHolds_overtempEdge {s : State} (ok : TripHolds (fun _ => False) s) (asserted : Bool) :
    TripHolds (fun _ => False) (judgeSources (s.withTrip { s.trip with overtemp := asserted }) (sourceBit overtempSource)) := by
  have written : TripHolds (fun src => src = overtempSource) (s.withTrip { s.trip with overtemp := asserted }) :=
    ⟨(ok.1.mono fun _ => False.elim).inputs rfl rfl (fun _ _ _ => rfl) (fun notStale => absurd rfl notStale) fun _ => rfl, ok.2⟩
  exact tripHolds_judge_one written fun _ => id

/-- Full reset is sound but for OVERTEMP, whose sampled level it judges last (R164). -/
theorem tripHolds_resetBlocks (p : PinLevels) (s : State) : TripHolds (fun src => src = overtempSource) (resetBlocks p s) := by
  have outputs : ∀ ix : OutputIx, OutputOk 0 0 Default.outputs[ix] := by
    unfold OutputOk
    decide
  have judged : ∀ src : Source, src ≠ overtempSource → sourceCondition (Default.trip p) Default.measure.latest src = false := by
    intro src other
    unfold sourceCondition
    split
    · simp [Default.measure]
    · split
      · next nine => exact absurd (Fin.ext nine) other
      · rfl
  have tripOk : TripOk (Default.trip p) :=
    ⟨show (0 : SourceSet) &&& 0 = 0 by decide, iff_of_true rfl rfl, iff_of_false nofun nofun, show (50 : Byte) ≠ 0 by decide⟩
  refine ⟨⟨tripOk, outputs, fun src other => ?_⟩, ?_⟩
  · rw [judgedSet_getLsbD]
    show (0 : SourceSet).getLsbD src.val = ((Default.trip p).enable.getLsbD src.val && sourceCondition (Default.trip p) Default.measure.latest src)
    rw [judged src other]
    simp
  · show (0 : BitVec 9) = saturatedSet Default.governor
    decide

/-! ### The steps -/

theorem ClaimEffect.tripHolds {s u : State} {issuer : Requester} {c : Command} (h : ClaimEffect s issuer c u)
    (ok : TripHolds (fun _ => False) s) : TripHolds (fun _ => False) u := by
  cases h with
  | change => split <;> exact ok.congr (by simp) (by simp) (by simp) (by simp)
  | resume state clear => exact tripHolds_resume ok state clear
  | setGovern f m => exact tripHolds_withSubject (m := m) ok rfl rfl rfl rfl
  | setOutput f x read => exact tripHolds_setOutput ok (of_outputSettingsOf read)
  | setTrip packed x read => exact tripHolds_setTrip ok (of_tripSettingsOf read)
  | _ => exact ok.congr (by simp) (by simp) (by simp) (by simp)

theorem RowEffect.tripHolds {s t : State} {i : Instr} (h : RowEffect s i t) (ok : TripHolds (fun _ => False) s) :
    TripHolds (fun _ => False) t := by
  cases h with
  | fullReset p => exact tripHolds_judge_one (tripHolds_resetBlocks p s) fun _ => id
  | frame _ _ _ effect => cases effect <;> exact ok.congr (by simp) (by simp) (by simp) (by simp)
  | command e u reply _ effect => exact (effect.tripHolds ok).congr (by simp) (by simp) (by simp) (by simp)
  | conversionCompletion code c => exact (tripHolds_scanCompletion ok c code).congr rfl rfl rfl rfl
  | spotCompletion code => exact (tripHolds_completion ok spotChannel code).congr rfl rfl rfl rfl
  | overtempEdge asserted => exact tripHolds_overtempEdge ok asserted
  | stopAckEdge asserted => exact tripHolds_acknowledge ok asserted
  | stopTimerExpiry stopping =>
    exact tripHolds_handshake ok rfl (iff_of_false nofun (by rw [stopping]; nofun)) (iff_of_false nofun nofun)
  | periodEnd ix => exact tripHolds_takePeriodEnd ok ix
  | _ => exact ok.congr (by simp) (by simp) (by simp) (by simp)

/-- Settles O57: what a row makes stale in the active set it judges afresh in the same row, and a judgement latches what rises, moves the state with its
timer, and hands the sets to every output. -/
theorem stepKeepsTripAndOutputs : Obligations.StepKeepsTripAndOutputs := fun _ _ trip active outputs next =>
  tripSound_none_iff.1 (step_keeps (P := TripHolds fun _ => False) (fun _ _ ok => ok) (fun _ ok => ok.congr rfl rfl rfl rfl)
    (fun _ _ _ effect ok => effect.tripHolds ok) next (tripSound_none_iff.2 ⟨trip, active, outputs⟩))

end Sys2Proof.Machine
end

section
/-! SUPPORT. The events due at a moment, kind by kind (R53, R103, R106, R138, R169), each of them due once, with the statement of what a tick does. -/

namespace Sys2Proof.Machine

/-! ### Command rows and the others -/

/-- The row is that of a command; the others are events and frames. -/
def isCommandRow : Instr → Bool
  | .fullReset _ | .commandFrame _ | .frameDuringExecution _ | .fetchFrame _ | .commitTimerExpiry _ | .leaseTick
  | .postureInputEdge _ _ | .motionEdge _ | .adpPresEdge _ | .settleTimerExpiry | .scanTimerExpiry | .startStepEnd | .gapEnd
  | .conversionCompletion _ | .spotCompletion _ | .overtempEdge _ | .stopAckEdge _ | .stopTimerExpiry | .periodEnd _ => false
  | .place | .change | .renew | .retire | .sweep | .lookup | .readSlot | .list | .readResolved | .readPosture | .readMeasure
  | .readGovernor | .readTrip | .readNotices | .setNoticeEnable | .clearNotices | .readProfile | .readSettings | .resume | .softReset
  | .setScan | .setSense | .setCommit | .setGovern | .setRoute | .setOutput | .setTrip | .setPosture => true

@[simp] theorem isCommandRow_completionRow (c : Command) : isCommandRow (completionRow c) = true := by cases c <;> rfl

theorem ne_completionRow {i : Instr} (h : isCommandRow i = false) (c : Command) : i ≠ completionRow c := by
  rintro rfl
  rw [isCommandRow_completionRow] at h
  cases h

/-! ### What is due -/

section
variable {s : State} {i : Instr}

theorem mem_dueTimers : i ∈ dueTimers s ↔
    (∃ sub : Subject, i = .commitTimerExpiry sub ∧ s.commitTimers[sub].nextExpiry = s.timebase.count)
    ∨ (i = .leaseTick ∧ s.leaseClock = s.timebase.count)
    ∨ (i = .settleTimerExpiry ∧ ∃ x, s.posture.settle = some x ∧ x.due = some s.timebase.count)
    ∨ (i = .stopTimerExpiry ∧ s.trip.stopTimer = some s.timebase.count) := by
  have settles : (i ∈ match s.posture.settle with
      | some settle => if settle.due = some s.timebase.count then [Instr.settleTimerExpiry] else []
      | none => []) ↔ i = .settleTimerExpiry ∧ ∃ x, s.posture.settle = some x ∧ x.due = some s.timebase.count := by
    cases s.posture.settle with
    | none => simp
    | some x => by_cases due : x.due = some s.timebase.count <;> simp [due]
  have singleton : ∀ {e : Instr} {p : Prop} [Decidable p], i ∈ (if p then [e] else []) ↔ i = e ∧ p := by
    intro e p _
    by_cases h : p <;> simp [h]
  have commits : i ∈ ((List.finRange 10).filter fun sub => s.commitTimers[sub].nextExpiry == s.timebase.count).map .commitTimerExpiry
      ↔ ∃ sub : Subject, i = .commitTimerExpiry sub ∧ s.commitTimers[sub].nextExpiry = s.timebase.count := by
    simp only [List.mem_map, List.mem_filter, List.mem_finRange, true_and, beq_iff_eq]
    exact exists_congr fun sub => and_comm.trans (and_congr_left' eq_comm)
  unfold dueTimers
  rw [List.mem_append, List.mem_append, List.mem_append, commits, singleton, singleton, or_assoc, or_assoc]
  exact or_congr_right (or_congr_right (or_congr_left settles))

theorem mem_dueStep : i ∈ dueStep s ↔
    (i = .startStepEnd ∧ s.measure.sequencer = .starting 0)
    ∨ (i = .gapEnd ∧ ∃ c, s.measure.sequencer = .gap c 0)
    ∨ (i = .conversionCompletion (Config.converterCode s.fresh) ∧ ∃ c, s.measure.sequencer = .converting c s.timebase)
    ∨ (i = .spotCompletion (Config.converterCode s.fresh) ∧ ∃ resume, s.measure.sequencer = .spot s.timebase resume) := by
  unfold dueStep
  cases s.measure.sequencer with
  | idle => simp
  | starting left => by_cases due : left = 0 <;> simp [due]
  | gap c left => by_cases due : left = 0 <;> simp [due]
  | converting c due => by_cases now : due = s.timebase <;> simp [now]
  | spot due resume => by_cases now : due = s.timebase <;> simp [now]

theorem mem_dueCompletion : i ∈ dueCompletion s ↔
    ∃ e, s.link.execution = some e ∧ i = completionRow e.command ∧ (40 ≤ e.age ∨ Config.completesNow s.fresh = true) := by
  unfold dueCompletion
  cases s.link.execution with
  | none => simp
  | some e =>
    by_cases late : Config.maxExecutionMicros ≤ e.age
    · have : 40 ≤ e.age := late
      simp [late, this]
    · have : ¬ 40 ≤ e.age := late
      by_cases now : Config.completesNow s.fresh = true <;> simp [late, this, now]

theorem mem_dueEvents : i ∈ dueEvents s ↔
    i ∈ dueTimers s ∨ (i = .scanTimerExpiry ∧ s.measure.scan.next = s.timebase) ∨ i ∈ dueStep s
    ∨ (∃ ix : OutputIx, i = .periodEnd ix ∧ s.outputs[ix].nextEnd = s.timebase) ∨ i ∈ dueCompletion s := by
  have ends : i ∈ ((List.finRange 4).filter fun ix => s.outputs[ix].nextEnd == s.timebase).map .periodEnd
      ↔ ∃ ix : OutputIx, i = .periodEnd ix ∧ s.outputs[ix].nextEnd = s.timebase := by
    simp only [List.mem_map, List.mem_filter, List.mem_finRange, true_and, beq_iff_eq]
    exact exists_congr fun ix => and_comm.trans (and_congr_left' eq_comm)
  have scan : i ∈ (if s.measure.scan.next = s.timebase then [Instr.scanTimerExpiry] else [])
      ↔ i = .scanTimerExpiry ∧ s.measure.scan.next = s.timebase := by
    by_cases due : s.measure.scan.next = s.timebase <;> simp [due]
  unfold dueEvents
  rw [List.mem_append, List.mem_append, List.mem_append, List.mem_append, scan, ends, or_assoc, or_assoc, or_assoc]

/-- A row that is no command's is due as its own timer, step or period says. -/
theorem mem_dueEvents_of_event (event : isCommandRow i = false) : i ∈ dueEvents s ↔
    i ∈ dueTimers s ∨ (i = .scanTimerExpiry ∧ s.measure.scan.next = s.timebase) ∨ i ∈ dueStep s
    ∨ (∃ ix : OutputIx, i = .periodEnd ix ∧ s.outputs[ix].nextEnd = s.timebase) := by
  have notCompletion : i ∉ dueCompletion s := fun due => by
    obtain ⟨e, -, rfl, -⟩ := mem_dueCompletion.1 due
    exact ne_completionRow event e.command rfl
  rw [mem_dueEvents]
  exact or_congr_right (or_congr_right (or_congr_right (or_iff_left notCompletion)))

end

/-! ### The due event of each kind -/

section
variable {s : State}

theorem commitTimerExpiry_due {sub : Subject} :
    .commitTimerExpiry sub ∈ dueEvents s ↔ s.commitTimers[sub].nextExpiry = s.timebase.count := by
  rw [mem_dueEvents_of_event rfl, mem_dueTimers, mem_dueStep]
  simp

theorem leaseTick_due : .leaseTick ∈ dueEvents s ↔ s.leaseClock = s.timebase.count := by
  rw [mem_dueEvents_of_event rfl, mem_dueTimers, mem_dueStep]
  simp

theorem settleTimerExpiry_due :
    .settleTimerExpiry ∈ dueEvents s ↔ ∃ x, s.posture.settle = some x ∧ x.due = some s.timebase.count := by
  rw [mem_dueEvents_of_event rfl, mem_dueTimers, mem_dueStep]
  simp

theorem stopTimerExpiry_due : .stopTimerExpiry ∈ dueEvents s ↔ s.trip.stopTimer = some s.timebase.count := by
  rw [mem_dueEvents_of_event rfl, mem_dueTimers, mem_dueStep]
  simp

theorem scanTimerExpiry_due : .scanTimerExpiry ∈ dueEvents s ↔ s.measure.scan.next = s.timebase := by
  rw [mem_dueEvents_of_event rfl, mem_dueTimers, mem_dueStep]
  simp

theorem periodEnd_due {ix : OutputIx} : .periodEnd ix ∈ dueEvents s ↔ s.outputs[ix].nextEnd = s.timebase := by
  rw [mem_dueEvents_of_event rfl, mem_dueTimers, mem_dueStep]
  simp

theorem startStepEnd_due : .startStepEnd ∈ dueEvents s ↔ s.measure.sequencer = .starting 0 := by
  rw [mem_dueEvents_of_event rfl, mem_dueTimers, mem_dueStep]
  simp

theorem gapEnd_due : .gapEnd ∈ dueEvents s ↔ ∃ c, s.measure.sequencer = .gap c 0 := by
  rw [mem_dueEvents_of_event rfl, mem_dueTimers, mem_dueStep]
  simp

theorem conversionCompletion_due : (∃ code, .conversionCompletion code ∈ dueEvents s) ↔
    ∃ c, s.measure.sequencer = .converting c s.timebase := by
  have one : ∀ code, .conversionCompletion code ∈ dueEvents s ↔
      code = Config.converterCode s.fresh ∧ ∃ c, s.measure.sequencer = .converting c s.timebase := fun code => by
    rw [mem_dueEvents_of_event rfl, mem_dueTimers, mem_dueStep]
    simp
  simp only [one, exists_eq_left]

theorem spotCompletion_due : (∃ code, .spotCompletion code ∈ dueEvents s) ↔
    ∃ resume, s.measure.sequencer = .spot s.timebase resume := by
  have one : ∀ code, .spotCompletion code ∈ dueEvents s ↔
      code = Config.converterCode s.fresh ∧ ∃ resume, s.measure.sequencer = .spot s.timebase resume := fun code => by
    rw [mem_dueEvents_of_event rfl, mem_dueTimers, mem_dueStep]
    simp
  simp only [one, exists_eq_left]

theorem completionRow_due {c : Command} : completionRow c ∈ dueEvents s ↔
    ∃ e, s.link.execution = some e ∧ completionRow e.command = completionRow c
      ∧ (40 ≤ e.age ∨ Config.completesNow s.fresh = true) := by
  have notTimer : ∀ {i : Instr}, isCommandRow i = false → completionRow c ≠ i := fun event same => ne_completionRow event c same.symm
  rw [mem_dueEvents, mem_dueTimers, mem_dueStep, mem_dueCompletion]
  constructor
  · rintro ((⟨_, h, -⟩ | ⟨h, -⟩ | ⟨h, -⟩ | ⟨h, -⟩) | ⟨h, -⟩ | (⟨h, -⟩ | ⟨h, -⟩ | ⟨h, -⟩ | ⟨h, -⟩) | ⟨_, h, -⟩ | ⟨e, he, row, due⟩)
    case inr.inr.inr.inr => exact ⟨e, he, row.symm, due⟩
    all_goals exact absurd h (notTimer rfl)
  · rintro ⟨e, he, row, due⟩
    exact .inr (.inr (.inr (.inr ⟨e, he, row.symm, due⟩)))

/-! ### Each once -/

end

/-- The place of a row's kind in the list of events due; the sequencer has one step due at most. -/
def dueKind : Instr → Nat
  | .commitTimerExpiry _ => 0
  | .leaseTick => 1
  | .settleTimerExpiry => 2
  | .stopTimerExpiry => 3
  | .scanTimerExpiry => 4
  | .startStepEnd | .gapEnd | .conversionCompletion _ | .spotCompletion _ => 5
  | .periodEnd _ => 6
  | _ => 7

theorem dueKind_completionRow (c : Command) : dueKind (completionRow c) = 7 := by cases c <;> rfl

/-- Rows of one kind, each once. -/
def OnceOfKind (k : Nat) (l : List Instr) : Prop := l.Nodup ∧ ∀ i ∈ l, dueKind i = k

/-- Rows of kinds before one, each once. -/
def OnceBefore (k : Nat) (l : List Instr) : Prop := l.Nodup ∧ ∀ i ∈ l, dueKind i < k

theorem OnceBefore.append {k : Nat} {l l' : List Instr} (before : OnceBefore k l) (here : OnceOfKind k l') :
    OnceBefore (k + 1) (l ++ l') := by
  obtain ⟨once, earlier⟩ := before
  obtain ⟨once', same⟩ := here
  refine ⟨once.append once' (List.disjoint_left.2 fun i left right => ?_), fun i mem => ?_⟩
  · have := earlier i left
    have := same i right
    omega
  · rcases List.mem_append.1 mem with left | right
    · exact Nat.lt_succ_of_lt (earlier i left)
    · exact Nat.lt_succ_of_le (same i right).le

theorem onceOfKind_nil (k : Nat) : OnceOfKind k [] := ⟨List.nodup_nil, nofun⟩

theorem onceOfKind_singleton {k : Nat} {i : Instr} (kind : dueKind i = k) : OnceOfKind k [i] :=
  ⟨List.nodup_singleton i, fun j here => by rw [List.mem_singleton.1 here, kind]⟩

theorem onceOfKind_ite {k : Nat} {i : Instr} (kind : dueKind i = k) (p : Prop) [Decidable p] : OnceOfKind k (if p then [i] else []) := by
  split
  · exact onceOfKind_singleton kind
  · exact onceOfKind_nil k

/-- The rows of the indexes that pass a test. -/
theorem onceOfKind_rows {n k : Nat} {row : Fin n → Instr} (injective : Function.Injective row) (kind : ∀ i, dueKind (row i) = k)
    (test : Fin n → Bool) : OnceOfKind k (((List.finRange n).filter test).map row) := by
  refine ⟨((List.nodup_finRange n).filter test).map injective, fun i here => ?_⟩
  obtain ⟨x, -, rfl⟩ := List.mem_map.1 here
  exact kind x

theorem onceOfKind_dueStep (s : State) : OnceOfKind 5 (dueStep s) := by
  unfold dueStep
  cases s.measure.sequencer with
  | idle => exact onceOfKind_nil 5
  | starting left | gap c left | converting c due | spot due resume => exact onceOfKind_ite rfl _

theorem onceOfKind_dueCompletion (s : State) : OnceOfKind 7 (dueCompletion s) := by
  unfold dueCompletion
  split
  · exact onceOfKind_nil 7
  · split
    · exact onceOfKind_singleton (dueKind_completionRow _)
    · exact onceOfKind_ite (dueKind_completionRow _) _

theorem onceBefore_dueTimers (s : State) : OnceBefore 4 (dueTimers s) := by
  have commits : OnceBefore 1 (((List.finRange 10).filter fun sub => s.commitTimers[sub].nextExpiry == s.timebase.count).map
      .commitTimerExpiry) := by
    obtain ⟨once, kind⟩ := onceOfKind_rows (k := 0) (row := .commitTimerExpiry) (fun _ _ h => Instr.commitTimerExpiry.inj h) (fun _ => rfl)
      fun sub : Subject => s.commitTimers[sub].nextExpiry == s.timebase.count
    exact ⟨once, fun i here => Nat.lt_one_iff.2 (kind i here)⟩
  have settles : OnceOfKind 2 (match s.posture.settle with
      | some settle => if settle.due = some s.timebase.count then [Instr.settleTimerExpiry] else []
      | none => []) := by
    split
    · exact onceOfKind_ite rfl _
    · exact onceOfKind_nil 2
  exact ((commits.append (onceOfKind_ite (i := .leaseTick) rfl (s.leaseClock = s.timebase.count))).append settles).append
    (onceOfKind_ite (i := .stopTimerExpiry) rfl (s.trip.stopTimer = some s.timebase.count))

/-- The events due are each due once. -/
theorem dueEvents_nodup (s : State) : (dueEvents s).Nodup := by
  have ends := onceOfKind_rows (k := 6) (row := .periodEnd) (fun _ _ h => Instr.periodEnd.inj h) (fun _ => rfl)
    fun ix : OutputIx => s.outputs[ix].nextEnd == s.timebase
  have all := ((((onceBefore_dueTimers s).append (onceOfKind_ite rfl (s.measure.scan.next = s.timebase) (i := .scanTimerExpiry))).append
    (onceOfKind_dueStep s)).append ends).append (onceOfKind_dueCompletion s)
  exact all.1

/-! ### The tick (R52) -/

theorem later_one (m : Moment) :
    (m.micro.val < 999 → (m.later 1).count = m.count ∧ (m.later 1).micro.val = m.micro.val + 1)
    ∧ (m.micro.val = 999 → (m.later 1).count = m.count + 1 ∧ (m.later 1).micro.val = 0) := by
  unfold Moment.later
  refine ⟨fun within => ⟨?_, ?_⟩, fun last => ⟨?_, ?_⟩⟩
  · rw [Nat.div_eq_of_lt (by omega)]
    simp
  · exact Nat.mod_eq_of_lt (by omega)
  · rw [last]
    rfl
  · rw [last]
    rfl

theorem passMicro_starting {q : Sequencer} : passMicro q = .starting 0 ↔ ∃ left, q = .starting left ∧ left ≤ 1 := by
  cases q <;> simp [passMicro, Nat.sub_eq_zero_iff_le]

theorem passMicro_gap {q : Sequencer} : (∃ c, passMicro q = .gap c 0) ↔ ∃ c left, q = .gap c left ∧ left ≤ 1 := by
  cases q <;> simp [passMicro, Nat.sub_eq_zero_iff_le]

theorem passMicro_converting {q : Sequencer} {c : Channel} {due : Moment} : passMicro q = .converting c due ↔ q = .converting c due := by
  cases q <;> simp [passMicro]

theorem passMicro_spot {q : Sequencer} {due : Moment} {resume : Option Resume} : passMicro q = .spot due resume ↔ q = .spot due resume := by
  cases q <;> simp [passMicro]

/-- Settles O2: the queue after a tick is an order of the events due a microsecond on, and each kind of event is due as its own timer, step, period or
execution says. -/
theorem tickPassesOneMicrosecond : Obligations.TickPassesOneMicrosecond := by
  intro s empty
  have ticks : step s = .next (tick s) := by unfold step; rw [empty]
  have perm := tick_pending_perm empty
  have due : ∀ i, i ∈ (tick s).pending ↔ i ∈ dueEvents (advance s) := fun i => perm.mem_iff
  obtain ⟨within, last⟩ := later_one s.timebase
  refine ⟨tick s, ticks, within, last, perm, perm.nodup_iff.2 (dueEvents_nodup _), fun sub => ?_, ?_, ?_, ?_, ?_, fun ix => ?_, ?_, ?_,
    ?_, ?_, fun e executing late => ?_, fun c row => ?_, rfl⟩
  · exact (due _).trans commitTimerExpiry_due
  · exact (due _).trans leaseTick_due
  · exact (due _).trans settleTimerExpiry_due
  · exact (due _).trans stopTimerExpiry_due
  · exact (due _).trans scanTimerExpiry_due
  · exact (due _).trans periodEnd_due
  · exact (due _).trans (startStepEnd_due.trans passMicro_starting)
  · exact (due _).trans (gapEnd_due.trans passMicro_gap)
  · exact (exists_congr fun code => due _).trans (conversionCompletion_due.trans (exists_congr fun c => passMicro_converting))
  · exact (exists_congr fun code => due _).trans (spotCompletion_due.trans (exists_congr fun resume => passMicro_spot))
  · refine (due _).2 (completionRow_due.2 ⟨{ e with age := e.age + 1 }, ?_, rfl, .inl (Nat.succ_le_succ late)⟩)
    exact congrArg (Option.map _) executing
  · obtain ⟨e, executing, same, -⟩ := completionRow_due.1 ((due _).1 row)
    obtain ⟨before, here, rfl⟩ := Option.map_eq_some_iff.1 executing
    exact ⟨before, here, same⟩

end Sys2Proof.Machine
end

section
/-! SUPPORT. The notice states and the execution through every operation (R169, R173), with the statement that every step keeps the Link Port sound. -/

namespace Sys2Proof.Machine

/-! ### Reported within pending, for one requester (R173) -/

/-- The kinds reported to a requester are pending for it. -/
def ReportedWithin (n : NoticeState) : Prop := n.reported &&& n.pending = n.reported

theorem reportedWithin_iff {n : NoticeState} :
    ReportedWithin n ↔ ∀ i, n.reported.getLsbD i = true → n.pending.getLsbD i = true := by
  unfold ReportedWithin
  constructor
  · intro within i reported
    rw [← within, BitVec.getLsbD_and, Bool.and_eq_true] at reported
    exact reported.2
  · intro within
    refine BitVec.eq_of_getLsbD_eq fun i _ => ?_
    rw [BitVec.getLsbD_and, Bool.and_eq_left_iff_imp]
    exact within i

theorem ReportedWithin.take {n : NoticeState} (within : ReportedWithin n) (x : Notice) : ReportedWithin (n.take x) := by
  rw [reportedWithin_iff] at within ⊢
  intro i reported
  simp only [NoticeState.take, BitVec.getLsbD_or, BitVec.getLsbD_and, Bool.and_eq_true] at reported ⊢
  rw [within i reported.1, Bool.true_or]

theorem ReportedWithin.cleared {n : NoticeState} (within : ReportedWithin n) (set : NoticeSet) : ReportedWithin (cleared set n) := by
  rw [reportedWithin_iff] at within ⊢
  intro i reported
  simp only [Machine.cleared, BitVec.getLsbD_and, BitVec.getLsbD_not, Bool.and_eq_true, decide_eq_true_eq, Bool.not_eq_true',
    Bool.not_and] at reported ⊢
  obtain ⟨was, bound, unnamed⟩ := reported
  exact ⟨within i was, bound, by rw [unnamed]; rfl⟩

theorem reportedWithin_default : ReportedWithin Default.notices := by unfold ReportedWithin; decide

/-! ### The notice states through the operations -/

section
variable {s : State}

theorem noticesOk_set {l : LinkPort} (ok : NoticesOk l) {r : Requester} {n : NoticeState} (within : ReportedWithin n) :
    NoticesOk { l with notices := l.notices.set r n } := by
  intro q
  by_cases same : q = r
  · subst same
    show ReportedWithin (l.notices.set q n)[q]
    rw [Fin.getElem_fin, Vector.getElem_set_self]
    exact within
  · have apart : r.val ≠ q.val := fun h => same (Fin.ext h.symm)
    simpa [Vector.getElem_set, apart] using ok q

theorem noticesOk_post (ok : NoticesOk s.link) (r : Requester) (x : Notice) : NoticesOk (post s r x).link :=
  noticesOk_set ok (ReportedWithin.take (ok r) x)

theorem noticesOk_postList (ok : NoticesOk s.link) (l : List (Requester × Notice)) : NoticesOk (postList s l).link :=
  foldl_preserves (P := fun s => NoticesOk s.link) (fun _ n _ ok => noticesOk_post ok n.1 n.2) ok

theorem noticesOk_postAll (ok : NoticesOk s.link) (x : Notice) : NoticesOk (postAll s x).link := by
  intro r
  show ReportedWithin (postAll s x).link.notices[r]
  rw [postAll_notices]
  exact ReportedWithin.take (ok r) x

theorem noticesOk_placeResponse (ok : NoticesOk s.link) (r : Requester) (dropped : Bool) (reply : Reply) :
    NoticesOk (placeResponse s r dropped reply).link := by
  have reports : ReportedWithin { s.link.notices[r] with reported := s.link.notices[r].pending } := BitVec.and_self
  exact noticesOk_set (l := { s.link with slot := _ }) ok reports

theorem noticesOk_respond {u : State} (ok : NoticesOk u.link) (reply : Reply) : NoticesOk (respond (u, reply)).link := by
  unfold respond
  split
  · exact ok
  · next e _ => exact noticesOk_placeResponse ok e.requester e.dropped reply

theorem noticesOk_judgeSources (ok : NoticesOk s.link) (which : SourceSet) : NoticesOk (judgeSources s which).link := by
  unfold judgeSources
  dsimp only
  split
  · exact noticesOk_postAll ok .trip
  · split
    · exact ok
    · exact ok

theorem noticesOk_handSaturated (ok : NoticesOk s.link) : NoticesOk (handSaturated s).link := by
  unfold handSaturated
  exact noticesOk_judgeSources (by simpa using ok) _

/-- An evaluation writes the Governor, and where the flag of its subject changes hands the saturated set over (R124). -/
theorem evaluate_ends (s : State) (m : Measured) (v : Nat) :
    ∃ g, evaluate s m v = s.withGovernor g ∨ evaluate s m v = handSaturated (s.withGovernor g) := by
  have targets : ∀ g (l : List OutputIx), ∃ g', l.foldl recomputeTarget (s.withGovernor g) = s.withGovernor g' :=
    fun g l => ⟨_, recomputeTargets_eq _ l⟩
  unfold evaluate
  dsimp only
  split <;> split
  · obtain ⟨g, same⟩ := targets _ _
    exact ⟨g, .inr (congrArg handSaturated same)⟩
  · exact ⟨_, .inr rfl⟩
  · obtain ⟨g, same⟩ := targets _ _
    exact ⟨g, .inl same⟩
  · exact ⟨_, .inl rfl⟩

theorem noticesOk_evaluate (ok : NoticesOk s.link) (m : Measured) (v : Nat) : NoticesOk (evaluate s m v).link := by
  obtain ⟨g, ends | ends⟩ := evaluate_ends s m v <;> rw [ends]
  · exact ok
  · exact noticesOk_handSaturated (by simpa using ok)

theorem noticesOk_filterUpdate (ok : NoticesOk s.link) (code : BitVec 10) (m : Measured) : NoticesOk (filterUpdate s code m).link := by
  unfold filterUpdate
  exact noticesOk_evaluate (by simpa using ok) m _

theorem noticesOk_completion (ok : NoticesOk s.link) (c : Channel) (code : BitVec 10) : NoticesOk (completion s c code).link :=
  completion_preserves (P := fun s => NoticesOk s.link) (fun _ _ ok => ok) (fun _ code m ok => noticesOk_filterUpdate ok code m)
    (fun _ w ok => noticesOk_judgeSources ok w) (fun _ _ ok => ok) ok c code

theorem noticesOk_scanCompletion (ok : NoticesOk s.link) (c : Channel) (code : BitVec 10) : NoticesOk (scanCompletion s c code).link :=
  scanCompletion_preserves (P := fun s => NoticesOk s.link) (fun _ _ ok => ok) (fun _ code m ok => noticesOk_filterUpdate ok code m)
    (fun _ w ok => noticesOk_judgeSources ok w) (fun _ _ _ ok => ok) (fun _ ok => noticesOk_respond ok _) (fun _ _ ok => ok) ok c code

theorem noticesOk_writeRecord (ok : NoticesOk s.link) (issuer : Requester) (i : SlotIx) (r : Record) :
    NoticesOk (writeRecord s issuer i r).link := by
  unfold writeRecord
  dsimp only
  split
  · exact noticesOk_post (by simpa using ok) _ _
  · exact ok

theorem noticesOk_commit (ok : NoticesOk s.link) (sub : Subject) : NoticesOk (commit s sub).link := by
  unfold commit
  dsimp only
  split
  · exact noticesOk_postList (by simpa using ok) _
  · rw [recompute_link]; exact noticesOk_postList (by simpa using ok) _

theorem noticesOk_tickLeases (ok : NoticesOk s.link) : NoticesOk (tickLeases s).link := by
  unfold tickLeases
  rw [recomputeList_link]
  exact noticesOk_postList (by simpa using ok) _

theorem noticesOk_changePosture (ok : NoticesOk s.link) (p : Posture) : NoticesOk (changePosture s p).link :=
  noticesOk_postAll (by rw [recomputeAll_link]; exact ok) .posture

theorem noticesOk_runSettle (ok : NoticesOk s.link) (x : Settle) : NoticesOk (runSettle s x).link := by
  unfold runSettle
  split
  · exact noticesOk_changePosture ok _
  · exact ok

theorem noticesOk_settleAfter (ok : NoticesOk s.link) (raw : Posture) : NoticesOk (settleAfter s raw).link := by
  unfold settleAfter startSettle
  dsimp only
  split
  · exact ok
  · split
    · exact ok
    · split
      · exact noticesOk_runSettle ok _
      · split
        · exact ok
        · exact noticesOk_runSettle ok _

theorem noticesOk_settleOnMotion (ok : NoticesOk s.link) (asserted : Bool) : NoticesOk (settleOnMotion s asserted).link := by
  unfold settleOnMotion
  split
  · split
    · split
      · exact ok
      · split
        · exact noticesOk_runSettle ok _
        · exact ok
    · exact ok
  · exact ok

theorem ClaimEffect.noticesOk {u : State} {issuer : Requester} {c : Command} (effect : ClaimEffect s issuer c u) (ok : NoticesOk s.link) :
    NoticesOk u.link := by
  cases effect with
  | unaltered => exact ok
  | place => rw [recompute_link]; exact ok
  | change =>
    split
    · rw [recompute_link]; exact noticesOk_writeRecord ok _ _ _
    · exact noticesOk_writeRecord ok _ _ _
  | renew => exact noticesOk_writeRecord ok _ _ _
  | retire => rw [recompute_link]; exact noticesOk_writeRecord ok _ _ _
  | sweep => rw [recomputeList_link]; exact noticesOk_postList (by simpa using ok) _
  | setNoticeEnable kinds set => exact noticesOk_set ok (n := { s.link.notices[issuer] with enable := set }) (ok issuer)
  | clearNotices kinds set => exact noticesOk_set ok (ReportedWithin.cleared (ok issuer) set)
  | softReset =>
    refine noticesOk_postAll (fun r => ?_) .reset
    show ReportedWithin (Vector.replicate 8 Default.notices)[r]
    simpa using reportedWithin_default
  | setGovern =>
    dsimp only
    split
    · exact noticesOk_handSaturated (by simpa using ok)
    · exact ok
  | setTrip => exact noticesOk_judgeSources (by simpa using ok) _
  | resume | setScan | setSense | setCommit | setRoute | setOutput | setPosture => exact ok

theorem FrameEffect.noticesOk {t : State} (effect : FrameEffect s t) (ok : NoticesOk s.link) : NoticesOk t.link := by
  cases effect with
  | shifted l _ same => unfold NoticesOk; rw [State.withLink_link, same]; exact ok
  | dropped | taken => exact ok
  | refused sdo r reply => exact noticesOk_placeResponse (s := s.withSdo sdo) ok r false reply

theorem noticesOk_resetBlocks (p : PinLevels) (s : State) : NoticesOk (resetBlocks p s).link := fun r => by
  show ReportedWithin (Vector.replicate 8 Default.notices)[r]
  simpa using reportedWithin_default

theorem RowEffect.noticesOk {t : State} {i : Instr} (effect : RowEffect s i t) (ok : NoticesOk s.link) : NoticesOk t.link := by
  cases effect with
  | fullReset p => exact noticesOk_judgeSources (noticesOk_resetBlocks p s) _
  | frame _ _ _ effect => exact effect.noticesOk ok
  | command e u reply _ effect => exact noticesOk_respond (effect.noticesOk ok) reply
  | commitTimerExpiry sub => exact noticesOk_commit ok sub
  | leaseTick => rw [State.withLeaseClock_link]; exact noticesOk_tickLeases ok
  | postureInputEdge => exact noticesOk_settleAfter (by simpa using ok) _
  | motionEdge => exact noticesOk_settleOnMotion (by simpa using ok) _
  | settleTimerExpiry => exact noticesOk_changePosture ok _
  | conversionCompletion code c => exact noticesOk_scanCompletion ok c code
  | spotCompletion code => exact noticesOk_completion ok _ code
  | overtempEdge => exact noticesOk_judgeSources (by simpa using ok) _
  | adapterRises | adapterFalls | scanTimerExpiry | startStepEnd | gapEnd | stopAckEdge | stopTimerExpiry | periodEnd => exact ok

/-! ### The execution through the rows (R168, R169) -/

@[simp] theorem respond_link_execution (p : State × Reply) : (respond p).link.execution = none := by
  unfold respond
  split
  · next idle => exact idle
  · rfl

/-- The completion of a scan conversion leaves the execution, or completes it within (log 19). -/
theorem scanCompletion_execution (c : Channel) (code : BitVec 10) :
    ∀ e ∈ (scanCompletion s c code).link.execution, e ∈ s.link.execution := by
  refine scanCompletion_preserves (P := fun t => ∀ e ∈ t.link.execution, e ∈ s.link.execution) (fun _ _ kept => kept)
    (fun t code m kept => ?_) (fun t w kept => ?_) (fun _ _ _ kept => kept) (fun t kept => ?_) (fun _ _ kept => kept) (fun _ here => here)
    c code
  · rw [filterUpdate_link_execution]; exact kept
  · rw [judgeSources_link_execution]; exact kept
  · rw [respond_link_execution]; nofun

/-- A command in execution after a row has just been taken, or was in execution before, for as long, and the row is not its completion. -/
theorem RowEffect.execution {t : State} {i : Instr} (effect : RowEffect s i t) : ∀ e' ∈ t.link.execution,
    e'.age = 0 ∨ ∃ e ∈ s.link.execution, e'.age = e.age ∧ e'.command = e.command ∧ i ≠ completionRow e.command := by
  have event : ∀ {e'}, isCommandRow i = false → e' ∈ s.link.execution →
      e'.age = 0 ∨ ∃ e ∈ s.link.execution, e'.age = e.age ∧ e'.command = e.command ∧ i ≠ completionRow e.command :=
    fun notCommand here => .inr ⟨_, here, rfl, rfl, ne_completionRow notCommand _⟩
  intro e' here
  cases effect with
  | fullReset p => simp [resetBlocks, Default.link] at here
  | frame i t isFrame effect =>
    have notCommand : ∀ c, i ≠ completionRow c := ne_completionRow (by obtain ⟨sdi, rfl | rfl | rfl⟩ := isFrame <;> rfl)
    cases effect with
    | shifted l same => exact .inr ⟨e', same ▸ here, rfl, rfl, notCommand _⟩
    | dropped e sdo executing =>
      cases here
      exact .inr ⟨e, executing, rfl, rfl, notCommand _⟩
    | refused sdo r reply => exact .inr ⟨e', here, rfl, rfl, notCommand _⟩
    | taken r c sdo =>
      cases here
      exact .inl rfl
  | command => rw [respond_link_execution] at here; cases here
  | conversionCompletion code c => exact event rfl (scanCompletion_execution c code e' here)
  | _ => exact event rfl (by simpa using here)

end

/-! ### The statement -/

theorem tick_completionInTime {s : State} (empty : s.pending = []) (inTime : CompletionInTime s) : CompletionInTime (tick s) := by
  intro e' here
  obtain ⟨e, executing, rfl⟩ := Option.map_eq_some_iff.1 here
  obtain ⟨within, waits⟩ := inTime e executing
  have notYet : e.age ≠ 40 := fun old => by
    have := waits old
    rw [empty] at this
    cases this
  refine ⟨show e.age + 1 ≤ 40 by omega, fun (old : e.age + 1 = 40) => ?_⟩
  rw [(tick_pending_perm empty).mem_iff]
  exact completionRow_due.2 ⟨_, here, rfl, .inl old.ge⟩

theorem step_completionInTime {s t : State} (h : step s = .next t) (inTime : CompletionInTime s) : CompletionInTime t := by
  rcases step_effect h with ⟨empty, rfl⟩ | ⟨i, rest, queue, ends⟩
  · exact tick_completionInTime empty inTime
  · have waiting : ∀ e ∈ s.link.execution, i ≠ completionRow e.command → e.age ≤ 40 ∧ (e.age = 40 → completionRow e.command ∈ rest) := by
      intro e executing other
      obtain ⟨within, waits⟩ := inTime e executing
      refine ⟨within, fun old => ?_⟩
      have := waits old
      rw [queue, List.mem_cons] at this
      exact this.resolve_left other.symm
    rcases ends with ⟨absent, rfl⟩ | ⟨-, effect⟩
    · exact fun e executing => waiting e executing fun same => absent (same ▸ atHand_completionRow.2 ⟨e, executing, rfl⟩)
    · intro e' here
      rw [show t.pending = rest from effect.pending]
      rcases effect.execution e' here with new | ⟨e, executing, age, command, other⟩
      · rw [new]; exact ⟨by omega, by omega⟩
      · rw [age, command]; exact waiting e executing other

/-- Settles O58: every operation on a notice state keeps its reported set within its pending set; the age of an execution moves with the tick alone,
which queues the completion at 40. -/
theorem stepKeepsLinkPort : Obligations.StepKeepsLinkPort := by
  intro s t h
  exact ⟨step_keeps (P := fun s => NoticesOk s.link) (fun _ _ ok => ok) (fun _ ok => ok) (fun _ _ _ effect ok => effect.noticesOk ok) h,
    step_completionInTime h⟩

end Sys2Proof.Machine
end

section
/-! SUPPORT. What is due after a row was due before it, and is no longer due once its own row has been taken (R53, R55, R61, R75, R103, R106, R138,
R155), with the statement that no step passes over a timer, a period end or a step of the sequencer. -/

namespace Sys2Proof.Machine

/-! ### Later is another time (R52, R53) -/

theorem laterCount_ne (c : Count) {n : Nat} (pos : 0 < n) (bound : n < 2 ^ 32) : laterCount c n ≠ c := by
  unfold laterCount
  intro same
  have zero : BitVec.ofNat 32 n = 0#32 := by simpa using same
  have := congrArg BitVec.toNat zero
  rw [BitVec.toNat_ofNat, Nat.mod_eq_of_lt bound] at this
  simp at this
  omega

theorem later_ne (m : Moment) {n : Nat} (pos : 0 < n) (bound : n < 1000) : m.later n ≠ m := by
  intro same
  have micro : (m.micro.val + n) % 1000 = m.micro.val := congrArg (fun x : Moment => x.micro.val) same
  have := m.micro.isLt
  omega

/-- A whole number of milliseconds or more, short of the wrap. -/
theorem later_ne_of_count (m : Moment) {n : Nat} (pos : 0 < n) (bound : n < 1000 * (2 ^ 32 - 1)) : m.later n ≠ m := by
  intro same
  have micro : (m.micro.val + n) % 1000 = m.micro.val := congrArg (fun x : Moment => x.micro.val) same
  have count : laterCount m.count ((m.micro.val + n) / 1000) = m.count := congrArg Moment.count same
  have := m.micro.isLt
  exact laterCount_ne m.count (by omega) (by omega) count

/-! ### What is due, and its row -/

/-- The sequencer's step has run out, with the row that ends it; a conversion ends with any code (log 6). -/
inductive StepDue (now : Moment) : Sequencer → Instr → Prop
  | startStepEnd : StepDue now (.starting 0) .startStepEnd
  | gapEnd (c : Channel) : StepDue now (.gap c 0) .gapEnd
  | conversionCompletion (c : Channel) (code : BitVec 10) : StepDue now (.converting c now) (.conversionCompletion code)
  | spotCompletion (resume : Option Resume) (code : BitVec 10) : StepDue now (.spot now resume) (.spotCompletion code)

/-- The timer, the period or the step whose row this is is due. -/
inductive Due (s : State) : Instr → Prop
  | commitTimerExpiry (sub : Subject) : s.commitTimers[sub].nextExpiry = s.timebase.count → Due s (.commitTimerExpiry sub)
  | leaseTick : s.leaseClock = s.timebase.count → Due s .leaseTick
  | settleTimerExpiry (x : Settle) : s.posture.settle = some x → x.due = some s.timebase.count → Due s .settleTimerExpiry
  | stopTimerExpiry : s.trip.stopTimer = some s.timebase.count → Due s .stopTimerExpiry
  | scanTimerExpiry : s.measure.scan.next = s.timebase → Due s .scanTimerExpiry
  | periodEnd (ix : OutputIx) : s.outputs[ix].nextEnd = s.timebase → Due s (.periodEnd ix)
  | step (i : Instr) : StepDue s.timebase s.measure.sequencer i → Due s i

/-- The row waits in a queue, a conversion's with any code (log 6). -/
def Waits (queue : List Instr) : Instr → Prop
  | .conversionCompletion _ => ∃ code, .conversionCompletion code ∈ queue
  | .spotCompletion _ => ∃ code, .spotCompletion code ∈ queue
  | i => i ∈ queue

theorem stepWaits_iff {s : State} : StepWaits s ↔ ∀ i, StepDue s.timebase s.measure.sequencer i → Waits s.pending i := by
  unfold StepWaits
  cases s.measure.sequencer with
  | idle => exact iff_of_true trivial nofun
  | starting left =>
    refine ⟨fun waits i due => ?_, ?_⟩
    · cases due; exact waits rfl
    · rintro all rfl; exact all _ .startStepEnd
  | gap c left =>
    refine ⟨fun waits i due => ?_, ?_⟩
    · cases due; exact waits rfl
    · rintro all rfl; exact all _ (.gapEnd c)
  | converting c ends =>
    refine ⟨fun waits i due => ?_, ?_⟩
    · cases due; exact waits rfl
    · rintro all rfl; exact all _ (.conversionCompletion c 0)
  | spot ends resume =>
    refine ⟨fun waits i due => ?_, ?_⟩
    · cases due; exact waits rfl
    · rintro all rfl; exact all _ (.spotCompletion resume 0)

theorem nothingMissed_iff {s : State} : NothingMissed s ↔ ∀ i, Due s i → Waits s.pending i := by
  unfold NothingMissed
  rw [stepWaits_iff]
  constructor
  · rintro ⟨commits, lease, settles, stop, scan, ends, steps⟩ i due
    cases due with
    | commitTimerExpiry sub now => exact commits sub now
    | leaseTick now => exact lease now
    | settleTimerExpiry x settling now => exact settles x settling now
    | stopTimerExpiry now => exact stop now
    | scanTimerExpiry now => exact scan now
    | periodEnd ix now => exact ends ix now
    | step i now => exact steps i now
  · intro all
    exact ⟨fun sub now => all _ (.commitTimerExpiry sub now), fun now => all _ (.leaseTick now),
      fun x settling now => all _ (.settleTimerExpiry x settling now), fun now => all _ (.stopTimerExpiry now),
      fun now => all _ (.scanTimerExpiry now), fun ix now => all _ (.periodEnd ix now), fun i now => all i (.step i now)⟩

/-- What is due with one code of a conversion is due with every code. -/
theorem Due.anyCode {s : State} {code : BitVec 10} :
    (Due s (.conversionCompletion code) → ∀ code', Due s (.conversionCompletion code'))
    ∧ (Due s (.spotCompletion code) → ∀ code', Due s (.spotCompletion code')) := by
  constructor
  · rintro (_ | _ | _ | _ | _ | _ | ⟨_, due⟩) code'
    refine .step _ ?_
    generalize s.measure.sequencer = q at due ⊢
    cases due with
    | conversionCompletion c => exact .conversionCompletion c code'
  · rintro (_ | _ | _ | _ | _ | _ | ⟨_, due⟩) code'
    refine .step _ ?_
    generalize s.measure.sequencer = q at due ⊢
    cases due with
    | spotCompletion resume => exact .spotCompletion resume code'

/-- What waits behind the row at the front waits in the rest, or is of that row's own event. -/
theorem waits_cons {s : State} {i j : Instr} {rest : List Instr} (due : Due s j) (waits : Waits (i :: rest) j) (taken : ¬ Due s i) :
    Waits rest j := by
  cases j
  case conversionCompletion =>
    obtain ⟨code, mem⟩ := waits
    rcases List.mem_cons.1 mem with rfl | mem
    · exact absurd (Due.anyCode.1 due code) taken
    · exact ⟨code, mem⟩
  case spotCompletion =>
    obtain ⟨code, mem⟩ := waits
    rcases List.mem_cons.1 mem with rfl | mem
    · exact absurd (Due.anyCode.2 due code) taken
    · exact ⟨code, mem⟩
  all_goals
    rcases List.mem_cons.1 waits with rfl | mem
    · exact absurd due taken
    · exact mem

/-! ### The sequencer's steps (R106, R107, R112) -/

section
variable {now : Moment} {i : Instr}

theorem not_stepDue_starting {left : Nat} (more : left ≠ 0) : ¬ StepDue now (.starting left) i := by
  rintro ⟨⟩
  exact more rfl

theorem not_stepDue_gap {c : Channel} {left : Nat} (more : left ≠ 0) : ¬ StepDue now (.gap c left) i := by
  rintro ⟨⟩
  exact more rfl

theorem not_stepDue_beginConversion (c : Channel) : ¬ StepDue now (beginConversion now c) i := by
  have notYet : now.later conversionMicros ≠ now := later_ne now (by decide) (by decide)
  unfold beginConversion
  generalize now.later conversionMicros = ends at notYet ⊢
  rintro ⟨⟩
  exact notYet rfl

theorem not_stepDue_spot (resume : Option Resume) : ¬ StepDue now (.spot (now.later conversionMicros) resume) i := by
  have notYet : now.later conversionMicros ≠ now := later_ne now (by decide) (by decide)
  generalize now.later conversionMicros = ends at notYet ⊢
  rintro ⟨⟩
  exact notYet rfl

theorem not_stepDue_afterConversion (c : Channel) : ¬ StepDue now (afterConversion c) i := by
  unfold afterConversion
  split
  · exact not_stepDue_gap (by decide)
  · nofun

theorem not_stepDue_resumeAt (resume : Option Resume) : ¬ StepDue now (resumeAt now resume) i := by
  unfold resumeAt
  split
  · nofun
  · split
    · exact not_stepDue_beginConversion 0
    · next more => exact not_stepDue_starting more
  · exact not_stepDue_beginConversion _
  · split
    · exact not_stepDue_beginConversion _
    · next more => exact not_stepDue_gap more

theorem stepDue_of_requestSpot {q : Sequencer} (due : StepDue now (requestSpot now q) i) : StepDue now q i := by
  cases q with
  | spot => exact due
  | idle | starting | converting | gap => exact absurd due (not_stepDue_spot _)

theorem stepDue_of_offerScan {q : Sequencer} (due : StepDue now (offerScan q) i) : StepDue now q i := by
  cases q with
  | idle => exact absurd due (not_stepDue_starting (by decide))
  | spot ends resume =>
    cases resume with
    | some => exact due
    | none => cases due with | spotCompletion _ code => exact .spotCompletion none code
  | starting | converting | gap => exact due

end

/-! ### The stop timer (R155) -/

theorem escalate_stopTimer_cases (now : Count) (grave : Bool) (t : TripUnit) :
    (escalate now grave t).stopTimer = t.stopTimer ∨ (escalate now grave t).stopTimer = some (laterCount now t.stopTimeout.toNat) := by
  unfold escalate enterStopping
  split
  · split
    · split
      · exact .inl rfl
      · exact .inr rfl
    · exact .inl rfl
  · split
    · split
      · exact .inl rfl
      · exact .inr rfl
    · exact .inl rfl
  all_goals exact .inl rfl

/-- A stop timer started falls due later. -/
theorem judgeSources_stopTimer_due {s : State} {which : SourceSet} (timeout : s.trip.stopTimeout ≠ 0)
    (due : (judgeSources s which).trip.stopTimer = some s.timebase.count) : s.trip.stopTimer = some s.timebase.count := by
  have pos : 0 < s.trip.stopTimeout.toNat := Nat.pos_of_ne_zero fun zero => timeout (BitVec.eq_of_toNat_eq zero)
  have bound := s.trip.stopTimeout.isLt
  have later := laterCount_ne s.timebase.count pos (by omega)
  obtain ⟨rises, moves, stays⟩ := judgeSources_cases s which
  by_cases new : judgedActive s which &&& ~~~s.trip.active &&& ~~~s.trip.latched = 0
  · by_cases same : judgedActive s which = s.trip.active
    · rwa [stays new same] at due
    · rwa [moves new same] at due
  · rw [rises new, postAll_trip, handOver_trip, State.withTrip_trip] at due
    unfold latch at due
    rcases escalate_stopTimer_cases s.timebase.count _ _ with same | started
    · rwa [same] at due
    · rw [started] at due
      exact absurd (Option.some.inj due) later

/-- A part of a row keeps the moment and the stop timeout, and starts no stop timer that is due at once. -/
def StopLater (s u : State) : Prop :=
  u.timebase = s.timebase ∧ u.trip.stopTimeout ≠ 0
    ∧ (u.trip.stopTimer = some s.timebase.count → s.trip.stopTimer = some s.timebase.count)

section
variable {s u : State}

theorem StopLater.congr {v : State} (later : StopLater s u) (time : v.timebase = u.timebase)
    (timeout : v.trip.stopTimeout = u.trip.stopTimeout) (timer : v.trip.stopTimer = u.trip.stopTimer) : StopLater s v := by
  unfold StopLater
  rw [time, timeout, timer]
  exact later

theorem StopLater.judgeSources (later : StopLater s u) (which : SourceSet) : StopLater s (judgeSources u which) := by
  obtain ⟨time, timeout, stop⟩ := later
  obtain ⟨-, -, -, -, -, -, same⟩ := judgeSources_settings u which
  refine ⟨by simpa using time, by rw [same]; exact timeout, fun due => stop ?_⟩
  rw [← time] at due ⊢
  exact judgeSources_stopTimer_due timeout due

theorem StopLater.handSaturated (later : StopLater s u) : StopLater s (handSaturated u) := by
  unfold Machine.handSaturated
  exact StopLater.judgeSources (u := u.withTrip { u.trip with saturated := saturatedSet u.governor }) later _

theorem StopLater.filterUpdate (later : StopLater s u) (code : BitVec 10) (m : Measured) : StopLater s (filterUpdate u code m) := by
  unfold Machine.filterUpdate
  obtain ⟨g, ends | ends⟩ := evaluate_ends _ m _ <;> rw [ends]
  · exact later.congr rfl rfl rfl
  · exact StopLater.handSaturated (by exact later.congr rfl rfl rfl)

theorem StopLater.completion (later : StopLater s u) (c : Channel) (code : BitVec 10) : StopLater s (completion u c code) :=
  completion_preserves (P := StopLater s) (fun _ _ h => h.congr rfl rfl rfl) (fun _ code m h => h.filterUpdate code m)
    (fun _ w h => h.judgeSources w) (fun _ _ h => h.congr rfl rfl rfl) later c code

theorem StopLater.scanCompletion (later : StopLater s u) (c : Channel) (code : BitVec 10) : StopLater s (scanCompletion u c code) :=
  scanCompletion_preserves (P := StopLater s) (fun _ _ h => h.congr rfl rfl rfl) (fun _ code m h => h.filterUpdate code m)
    (fun _ w h => h.judgeSources w) (fun _ _ _ h => h.congr rfl rfl rfl) (fun _ h => h.congr (by simp) (by simp) (by simp))
    (fun _ _ h => h.congr rfl rfl rfl) later c code

end

/-! ### The scan timer (R103) -/

theorem filterUpdate_scan (s : State) (code : BitVec 10) (m : Measured) : (filterUpdate s code m).measure.scan = s.measure.scan := by
  simp [filterUpdate]

theorem completion_scan (s : State) (c : Channel) (code : BitVec 10) : (completion s c code).measure.scan = s.measure.scan :=
  completion_preserves (P := fun t => t.measure.scan = s.measure.scan) (fun _ _ kept => kept)
    (fun t code m kept => (filterUpdate_scan t code m).trans kept) (fun t w kept => by simpa using kept) (fun _ _ kept => kept) rfl c code

theorem scanCompletion_scan (s : State) (c : Channel) (code : BitVec 10) : (scanCompletion s c code).measure.scan = s.measure.scan :=
  scanCompletion_preserves (P := fun t => t.measure.scan = s.measure.scan) (fun _ _ kept => kept)
    (fun t code m kept => (filterUpdate_scan t code m).trans kept) (fun t w kept => by simpa using kept) (fun _ _ _ kept => kept)
    (fun t kept => by simpa using kept) (fun _ _ kept => kept) rfl c code

/-! ### The period ends (R138) -/

section
variable (s : State) (ix : OutputIx)

@[simp] theorem handOver_nextEnd : (handOver s).outputs[ix.val].nextEnd = s.outputs[ix.val].nextEnd := by
  show (handOver s).outputs[ix].nextEnd = s.outputs[ix].nextEnd
  rw [handOver_output, judgeOutput_eq]

@[simp] theorem judgeSources_nextEnd (which : SourceSet) : (judgeSources s which).outputs[ix.val].nextEnd = s.outputs[ix.val].nextEnd := by
  obtain ⟨rises, moves, stays⟩ := judgeSources_cases s which
  by_cases new : judgedActive s which &&& ~~~s.trip.active &&& ~~~s.trip.latched = 0
  · by_cases same : judgedActive s which = s.trip.active
    · rw [stays new same]
    · simp only [moves new same, handOver_nextEnd, State.withTrip_outputs]
  · simp only [rises new, postAll_outputs, handOver_nextEnd, State.withTrip_outputs]

@[simp] theorem handSaturated_nextEnd : (handSaturated s).outputs[ix.val].nextEnd = s.outputs[ix.val].nextEnd := by
  unfold handSaturated
  exact judgeSources_nextEnd _ ix _

@[simp] theorem filterUpdate_nextEnd (code : BitVec 10) (m : Measured) :
    (filterUpdate s code m).outputs[ix.val].nextEnd = s.outputs[ix.val].nextEnd := by
  unfold filterUpdate
  obtain ⟨g, ends | ends⟩ := evaluate_ends _ m _ <;> rw [ends]
  · rfl
  · rw [handSaturated_nextEnd]; rfl

@[simp] theorem completion_nextEnd (c : Channel) (code : BitVec 10) :
    (completion s c code).outputs[ix.val].nextEnd = s.outputs[ix.val].nextEnd :=
  completion_keeps s (fun t => t.outputs[ix.val].nextEnd) (fun _ _ => rfl) (by simp) (by simp) (fun _ _ => rfl) c code

/-- A period end taken within a CH0 completion was due (R125). -/
theorem scanCompletion_nextEnd_due {s : State} {ix : OutputIx} {c : Channel} {code : BitVec 10}
    (due : (scanCompletion s c code).outputs[ix].nextEnd = s.timebase) : s.outputs[ix].nextEnd = s.timebase := by
  refine scanCompletion_preserves (P := fun t => t.outputs[ix].nextEnd = s.timebase → s.outputs[ix].nextEnd = s.timebase)
    (fun _ _ kept => kept) (fun t code m kept => ?_) (fun t w kept => ?_) (fun t ix' now kept => ?_) (fun t kept => ?_)
    (fun _ _ kept => kept) id c code due
  · simpa using kept
  · simpa using kept
  · by_cases same : ix' = ix
    · exact fun _ => same ▸ now
    · have apart : ix'.val ≠ ix.val := fun h => same (Fin.ext h)
      simpa [takePeriodEnd, Vector.getElem_set, apart] using kept
  · rwa [respond_outputs, readGovernorClaim_state]

end

/-! ### What a row makes due -/

/-- Whatever is due in one state was due in another: the timers, the periods and the steps of the sequencer, one by one. -/
structure DueBefore (s t : State) : Prop where
  commits (sub : Subject) : t.commitTimers[sub].nextExpiry = t.timebase.count → s.commitTimers[sub].nextExpiry = s.timebase.count := by simp
  lease : t.leaseClock = t.timebase.count → s.leaseClock = s.timebase.count := by simp
  settles : (∃ x, t.posture.settle = some x ∧ x.due = some t.timebase.count) →
    ∃ x, s.posture.settle = some x ∧ x.due = some s.timebase.count := by simp
  stop : t.trip.stopTimer = some t.timebase.count → s.trip.stopTimer = some s.timebase.count := by simp
  scan : t.measure.scan.next = t.timebase → s.measure.scan.next = s.timebase := by simp
  ends (ix : OutputIx) : t.outputs[ix].nextEnd = t.timebase → s.outputs[ix].nextEnd = s.timebase := by simp
  steps (i : Instr) : StepDue t.timebase t.measure.sequencer i → StepDue s.timebase s.measure.sequencer i := by simp

theorem DueBefore.due {s t : State} (before : DueBefore s t) {i : Instr} (due : Due t i) : Due s i := by
  cases due with
  | commitTimerExpiry sub now => exact .commitTimerExpiry sub (before.commits sub now)
  | leaseTick now => exact .leaseTick (before.lease now)
  | settleTimerExpiry x settling now =>
    obtain ⟨y, settling, now⟩ := before.settles ⟨x, settling, now⟩
    exact .settleTimerExpiry y settling now
  | stopTimerExpiry now => exact .stopTimerExpiry (before.stop now)
  | scanTimerExpiry now => exact .scanTimerExpiry (before.scan now)
  | periodEnd ix now => exact .periodEnd ix (before.ends ix now)
  | step i now => exact .step i (before.steps i now)

section
variable {s : State}

theorem StopLater.stop {t : State} (later : StopLater s t) (due : t.trip.stopTimer = some t.timebase.count) :
    s.trip.stopTimer = some s.timebase.count := by
  obtain ⟨time, -, stop⟩ := later
  exact stop (time ▸ due)

theorem stopLater_self (timeout : s.trip.stopTimeout ≠ 0) : StopLater s s := ⟨rfl, timeout, id⟩

/-- A settle that starts or restarts runs out later, or changes the posture at once (R75, R76). -/
theorem runSettle_settle (x : Settle) : (runSettle s x).posture.settle = none
    ∨ ∃ due, (runSettle s x).posture.settle = some { x with due := some due } ∧ due ≠ s.timebase.count := by
  unfold runSettle
  split
  · exact .inl (by simp)
  · next lasts =>
    have pos : 0 < x.duration.toNat := Nat.pos_of_ne_zero fun zero => lasts (BitVec.eq_of_toNat_eq zero)
    have bound := x.duration.isLt
    exact .inr ⟨_, rfl, laterCount_ne _ pos (by omega)⟩

theorem runSettle_not_due (x : Settle) :
    ¬ ∃ y, (runSettle s x).posture.settle = some y ∧ y.due = some s.timebase.count := by
  rintro ⟨y, settling, due⟩
  rcases runSettle_settle x with steady | ⟨ends, running, later⟩
  · rw [steady] at settling; cases settling
  · rw [running] at settling
    cases settling
    exact later (Option.some.inj due)

theorem settleAfter_due {raw : Posture} (due : ∃ x, (settleAfter s raw).posture.settle = some x ∧ x.due = some s.timebase.count) :
    ∃ x, s.posture.settle = some x ∧ x.due = some s.timebase.count := by
  unfold settleAfter startSettle at due
  dsimp only at due
  split at due
  · exact due
  · split at due
    · obtain ⟨x, settling, -⟩ := due; cases settling
    · split at due
      · exact absurd due (runSettle_not_due _)
      · split at due
        · obtain ⟨x, settling, now⟩ := due; cases settling; cases now
        · exact absurd due (runSettle_not_due _)

theorem settleOnMotion_due {asserted : Bool}
    (due : ∃ x, (settleOnMotion s asserted).posture.settle = some x ∧ x.due = some s.timebase.count) :
    ∃ x, s.posture.settle = some x ∧ x.due = some s.timebase.count := by
  unfold settleOnMotion at due
  split at due
  · split at due
    · split at due
      · obtain ⟨x, settling, now⟩ := due; cases settling; cases now
      · split at due
        · exact absurd due (runSettle_not_due _)
        · exact due
    · exact due
  · exact due

theorem ClaimEffect.dueBefore {u : State} {issuer : Requester} {c : Command} (effect : ClaimEffect s issuer c u)
    (timeout : s.trip.stopTimeout ≠ 0) : DueBefore s u := by
  cases effect with
  | change => split <;> exact {}
  | resume => exact {}
  | setCommit subject exponent sub n =>
    refine { commits := fun other now => ?_ }
    by_cases same : other = sub
    · subst same; simpa [stageExponent] using now
    · have apart : sub.val ≠ other.val := fun h => same (Fin.ext h.symm)
      simpa [Vector.getElem_set, apart] using now
  | setGovern f m =>
    dsimp only
    split
    · exact { stop := StopLater.stop (StopLater.handSaturated (by exact (stopLater_self timeout).congr rfl rfl rfl)) }
    · exact {}
  | setOutput f x =>
    refine { ends := fun other now => ?_ }
    by_cases same : other = x.output
    · subst same
      rw [State.withOutputs_outputs, Fin.getElem_fin, Vector.getElem_set_self, outputSet, judgeOutput_eq] at now
      exact now
    · have apart : x.output.val ≠ other.val := fun h => same (Fin.ext h.symm)
      simpa [Vector.getElem_set, apart] using now
  | setTrip packed x read =>
    have accepted := of_tripSettingsOf read
    exact { stop := fun due => judgeSources_stopTimer_due (s := s.withTrip { s.trip with
      enable := x.enable, stopClass := x.stopClass, levels := x.levels, stopTimeout := x.stopTimeout }) accepted (by simpa using due) }
  | _ => exact {}

/-- Nothing is due at the moment of a full reset (R54, R61, R81, R119, R148, R164). -/
theorem not_due_fullReset (p : PinLevels) {i : Instr} : ¬ Due (judgeSources (resetBlocks p s) (sourceBit overtempSource)) i := by
  intro due
  cases due with
  | commitTimerExpiry sub now =>
    have later : ∀ sub : Subject, Default.commitTimers[sub].nextExpiry ≠ 0 := by decide
    exact later sub (by simpa [resetBlocks] using now)
  | leaseTick now => simp [resetBlocks, Default.leaseClock] at now
  | settleTimerExpiry x settling now =>
    simp only [judgeSources_posture, judgeSources_timebase, resetBlocks, Default.posture] at settling now
    unfold Default.settle at settling
    split at settling
    · cases settling
    · cases settling
      dsimp only at now
      split at now
      · cases now
      · exact absurd (Option.some.inj now) (by decide)
  | stopTimerExpiry now =>
    have idle : (resetBlocks p s).trip.stopTimer = none := rfl
    have running := judgeSources_stopTimer_due (s := resetBlocks p s) (by simp [resetBlocks, Default.trip]) (by simpa using now)
    rw [idle] at running
    cases running
  | scanTimerExpiry now => simp [resetBlocks, Default.measure] at now
  | periodEnd ix now =>
    have later : ∀ ix : OutputIx, Default.outputs[ix].nextEnd ≠ ⟨0, 0⟩ := by decide
    exact later ix (by simpa [resetBlocks] using now)
  | step i now =>
    simp only [judgeSources_measure, resetBlocks, Default.measure] at now
    cases now

/-- Where nothing is due, whatever is due was due before. -/
theorem dueBefore_of_not_due {t : State} (never : ∀ i, ¬ Due t i) : DueBefore s t where
  commits sub now := absurd (.commitTimerExpiry sub now) (never _)
  lease now := absurd (.leaseTick now) (never _)
  settles := fun ⟨x, settling, now⟩ => absurd (.settleTimerExpiry x settling now) (never _)
  stop now := absurd (.stopTimerExpiry now) (never _)
  scan now := absurd (.scanTimerExpiry now) (never _)
  ends ix now := absurd (.periodEnd ix now) (never _)
  steps i now := absurd (.step i now) (never _)

theorem acknowledge_stopTimer (asserted : Bool) (u : TripUnit) :
    (acknowledge asserted u).stopTimer = none ∨ (acknowledge asserted u).stopTimer = u.stopTimer := by
  unfold acknowledge
  dsimp only
  split
  · exact .inl rfl
  · exact .inr rfl

/-- What is due after a row was due before it. -/
theorem RowEffect.dueBefore {t : State} {i : Instr} (effect : RowEffect s i t) (present : AtHand s i)
    (timeout : s.trip.stopTimeout ≠ 0) : DueBefore s t := by
  have self := stopLater_self timeout
  cases effect with
  | fullReset p => exact dueBefore_of_not_due fun _ => not_due_fullReset p
  | frame i t isFrame effect => cases effect <;> exact {}
  | command e u reply _ effect =>
    obtain ⟨commits, lease, settles, stop, scan, ends, steps⟩ := effect.dueBefore timeout
    exact ⟨by simpa using commits, by simpa using lease, by simpa using settles, by simpa using stop, by simpa using scan,
      by simpa using ends, by simpa using steps⟩
  | commitTimerExpiry sub =>
    refine { commits := fun other now => ?_ }
    by_cases same : other = sub
    · exact same ▸ present
    · have apart : sub.val ≠ other.val := fun h => same (Fin.ext h.symm)
      simpa [Vector.getElem_set, apart] using now
  | leaseTick now => exact { lease := fun _ => now }
  | postureInputEdge input level =>
    exact { settles := fun due => settleAfter_due (s := keepEdge s (inputIndex input) level) (by simpa using due) }
  | motionEdge asserted =>
    exact { settles := fun due => settleOnMotion_due (s := keepEdge s motionIndex asserted) (by simpa using due) }
  | adapterRises => exact {}
  | adapterFalls => exact { steps := fun _ due => stepDue_of_requestSpot due }
  | settleTimerExpiry => exact {}
  | scanTimerExpiry => exact { scan := fun _ => present, steps := fun _ due => stepDue_of_offerScan due }
  | startStepEnd => exact { steps := fun _ due => absurd due (not_stepDue_beginConversion _) }
  | gapEnd c => exact { steps := fun _ due => absurd due (not_stepDue_beginConversion _) }
  | conversionCompletion code c =>
    exact {
      stop := (self.scanCompletion c code).stop
      scan := by simp [scanCompletion_scan]
      ends := fun _ due => scanCompletion_nextEnd_due (by simpa using due)
      steps := fun _ due => absurd due (not_stepDue_afterConversion c) }
  | spotCompletion code resume =>
    exact {
      stop := (self.completion _ code).stop
      scan := by simp [completion_scan]
      steps := fun _ due => absurd (by simpa using due) (not_stepDue_resumeAt resume) }
  | overtempEdge asserted => exact { stop := (StopLater.judgeSources (by exact self.congr rfl rfl rfl) _).stop }
  | stopAckEdge asserted =>
    refine { stop := fun now => ?_ }
    rw [State.withTrip_trip] at now
    rcases acknowledge_stopTimer asserted s.trip with idle | same
    · rw [idle] at now; cases now
    · rwa [same] at now
  | stopTimerExpiry => exact {}
  | periodEnd ix =>
    refine { ends := fun other now => ?_ }
    by_cases same : other = ix
    · exact same ▸ present
    · have apart : ix.val ≠ other.val := fun h => same (Fin.ext h.symm)
      simpa [takePeriodEnd, Vector.getElem_set, apart] using now

/-! ### A row taken is no longer due -/

theorem commitInterval_ne_zero (n : Fin 8) : Default.commitInterval n ≠ 0 := by revert n; decide

theorem reschedule_later (x : CommitTimer) : (reschedule x).nextExpiry ≠ x.nextExpiry := by
  unfold reschedule
  intro same
  exact commitInterval_ne_zero _ (by simpa using same)

theorem rescheduleScan_later (x : ScanTimer) : (rescheduleScan x).next ≠ x.next := by
  unfold rescheduleScan
  refine later_ne_of_count x.next ?_ ?_ <;> cases x.staged.getD x.period <;> decide

theorem endPeriod_later {o : Output} (target : Level) (period : o.period ≠ 0) (staged : o.staged ≠ some 0) :
    (endPeriod target o).nextEnd ≠ o.nextEnd := by
  have lasts : o.staged.getD o.period ≠ 0 := by
    cases h : o.staged with
    | none => exact period
    | some n => rintro rfl; exact staged h
  have pos : 0 < (o.staged.getD o.period).toNat := Nat.pos_of_ne_zero fun zero => lasts (BitVec.eq_of_toNat_eq zero)
  have bound := (o.staged.getD o.period).isLt
  have later : o.nextEnd.later (periodMicros (o.staged.getD o.period)) ≠ o.nextEnd :=
    later_ne_of_count o.nextEnd (by unfold periodMicros; omega) (by unfold periodMicros; omega)
  unfold endPeriod
  dsimp only
  split <;> exact later

/-- The rows that end a step of the sequencer. -/
def isStepRow : Instr → Bool
  | .startStepEnd | .gapEnd | .conversionCompletion _ | .spotCompletion _ => true
  | _ => false

/-- The rows of the timers, the periods and the steps; a command, a frame, an edge and a full reset are due at no moment of the part's own. -/
def isTimedRow : Instr → Bool
  | .commitTimerExpiry _ | .leaseTick | .settleTimerExpiry | .stopTimerExpiry | .scanTimerExpiry | .periodEnd _ => true
  | i => isStepRow i

theorem StepDue.isStepRow {now : Moment} {q : Sequencer} {i : Instr} (due : StepDue now q i) : isStepRow i = true := by
  cases due <;> rfl

theorem Due.isTimedRow {i : Instr} (due : Due s i) : isTimedRow i = true := by
  cases due with
  | step _ due => generalize s.measure.sequencer = q at due; cases due <;> rfl
  | _ => rfl

theorem not_due_of_untimed {i : Instr} (untimed : isTimedRow i = false) : ¬ Due s i := fun due => by
  rw [due.isTimedRow] at untimed
  cases untimed

/-- A step is due by the sequencer alone. -/
theorem Due.stepDue {i : Instr} (isStep : isStepRow i = true) (due : Due s i) : StepDue s.timebase s.measure.sequencer i := by
  cases due with
  | step _ due => exact due
  | _ => cases isStep

/-- Once its row has been taken, an event is no longer due. -/
theorem RowEffect.taken {t : State} {i : Instr} (effect : RowEffect s i t) (present : AtHand s i) (outputs : OutputsOk s) : ¬ Due t i := by
  cases effect with
  | fullReset => exact not_due_of_untimed rfl
  | frame i t isFrame => obtain ⟨sdi, rfl | rfl | rfl⟩ := isFrame <;> exact not_due_of_untimed rfl
  | command e => exact not_due_of_untimed (by cases e.command <;> rfl)
  | postureInputEdge | motionEdge | adapterRises | adapterFalls | overtempEdge | stopAckEdge => exact not_due_of_untimed rfl
  | commitTimerExpiry sub =>
    rintro (⟨_, now⟩ | _ | _ | _ | _ | _ | ⟨_, due⟩)
    · refine reschedule_later s.commitTimers[sub] (Eq.trans ?_ present.symm)
      simpa using now
    · cases due.isStepRow
  | leaseTick now =>
    rintro (_ | later | _ | _ | _ | _ | ⟨_, due⟩)
    · refine laterCount_ne s.leaseClock (n := leaseInterval) (by decide) (by decide) (Eq.trans ?_ now.symm)
      simpa using later
    · cases due.isStepRow
  | settleTimerExpiry =>
    rintro (_ | _ | ⟨x, settling, _⟩ | _ | _ | _ | ⟨_, due⟩)
    · simp at settling
    · cases due.isStepRow
  | scanTimerExpiry =>
    rintro (_ | _ | _ | _ | later | _ | ⟨_, due⟩)
    · exact rescheduleScan_later s.measure.scan (Eq.trans later present.symm)
    · cases due.isStepRow
  | stopTimerExpiry =>
    rintro (_ | _ | _ | running | _ | _ | ⟨_, due⟩)
    · cases running
    · cases due.isStepRow
  | periodEnd ix =>
    obtain ⟨period, staged, -⟩ := outputs ix
    rintro (_ | _ | _ | _ | _ | ⟨_, later⟩ | ⟨_, due⟩)
    · refine endPeriod_later s.governor.targets[ix] period staged (Eq.trans ?_ present.symm)
      simpa [takePeriodEnd] using later
    · cases due.isStepRow
  | startStepEnd => exact fun due => not_stepDue_beginConversion _ (due.stepDue rfl)
  | gapEnd c => exact fun due => not_stepDue_beginConversion _ (due.stepDue rfl)
  | conversionCompletion code c => exact fun due => not_stepDue_afterConversion c (due.stepDue rfl)
  | spotCompletion code resume =>
    exact fun due => not_stepDue_resumeAt (now := s.timebase) resume (by simpa using due.stepDue rfl)

/-- A timed event that is due is at hand; the stop timer runs in STOPPING alone (R155). -/
theorem Due.atHand {i : Instr} (due : Due s i) (trip : TripOk s.trip) : AtHand s i := by
  cases due with
  | commitTimerExpiry sub now => exact now
  | leaseTick now => exact now
  | settleTimerExpiry x settling now => exact ⟨x, settling, now⟩
  | stopTimerExpiry now =>
    obtain ⟨-, -, stopping, -⟩ := trip
    exact ⟨now, stopping.1 (by rw [now]; rfl)⟩
  | scanTimerExpiry now => exact now
  | periodEnd ix now => exact now
  | step i now =>
    generalize sequencer : s.measure.sequencer = q at now
    cases now with
    | startStepEnd => exact sequencer
    | gapEnd c => exact ⟨c, sequencer⟩
    | conversionCompletion c code => exact ⟨c, sequencer⟩
    | spotCompletion resume code => exact ⟨resume, sequencer⟩

end

/-! ### The statement -/

/-- After a tick on an empty queue every event due waits (R52). -/
theorem tick_nothingMissed {s : State} (empty : s.pending = []) : NothingMissed (tick s) := by
  rw [nothingMissed_iff]
  intro i due
  have queued : ∀ {i}, i ∈ dueEvents (advance s) → i ∈ (tick s).pending := (tick_pending_perm empty).mem_iff.2
  cases due with
  | commitTimerExpiry sub now => exact queued (commitTimerExpiry_due.2 now)
  | leaseTick now => exact queued (leaseTick_due.2 now)
  | settleTimerExpiry x settling now => exact queued (settleTimerExpiry_due.2 ⟨x, settling, now⟩)
  | stopTimerExpiry now => exact queued (stopTimerExpiry_due.2 now)
  | scanTimerExpiry now => exact queued (scanTimerExpiry_due.2 now)
  | periodEnd ix now => exact queued (periodEnd_due.2 now)
  | step i now =>
    generalize sequencer : (tick s).measure.sequencer = q at now
    cases now with
    | startStepEnd => exact queued (startStepEnd_due.2 sequencer)
    | gapEnd c => exact queued (gapEnd_due.2 ⟨c, sequencer⟩)
    | conversionCompletion c =>
      obtain ⟨code, here⟩ := (conversionCompletion_due (s := advance s)).2 ⟨c, sequencer⟩
      exact ⟨code, queued here⟩
    | spotCompletion resume =>
      obtain ⟨code, here⟩ := (spotCompletion_due (s := advance s)).2 ⟨resume, sequencer⟩
      exact ⟨code, queued here⟩

/-- Settles O59: a tick queues what has come due; a row makes nothing due that was not due before it, and its own event is due no longer. -/
theorem stepMissesNothing : Obligations.StepMissesNothing := by
  intro s t trip outputs missed h
  rcases step_effect h with ⟨empty, rfl⟩ | ⟨i, rest, queue, ends⟩
  · exact tick_nothingMissed empty
  · rw [nothingMissed_iff, queue] at missed
    rw [nothingMissed_iff]
    intro j due
    have unqueued : DueBefore s (s.withPending rest) := {}
    rcases ends with ⟨absent, rfl⟩ | ⟨present, effect⟩
    · have due := unqueued.due due
      exact waits_cons due (missed j due) fun due => absent (due.atHand trip)
    · obtain ⟨-, -, -, timeout⟩ := trip
      have present : AtHand (s.withPending rest) i := by cases i <;> exact present
      rw [show t.pending = rest from effect.pending]
      exact waits_cons due (missed j (unqueued.due ((effect.dueBefore present timeout).due due))) (effect.taken present outputs)

end Sys2Proof.Machine
end

section
/-! SUPPORT. One trip source judged (R151 to R155), by whether its condition holds, and whether it is active and latched: no move, a fall, a rise
that the latched set hides, and a rise that latches and moves the trip state; with the statement of an edge of OVERTEMP. -/

namespace Sys2Proof.Machine

/-! ### The set of one source -/

theorem sourceSet_ext {a b : SourceSet} (same : ∀ x : Source, a.getLsbD x.val = b.getLsbD x.val) : a = b :=
  BitVec.eq_of_getLsbD_eq fun i hi => same ⟨i, hi⟩

theorem sourceBit_getLsbD (src x : Source) : (sourceBit src).getLsbD x.val = decide (x = src) := by
  unfold sourceBit
  rw [BitVec.getLsbD_twoPow, Bool.eq_iff_iff]
  simp [Fin.ext_iff, eq_comm]

theorem mem_or_sourceBit (a : SourceSet) (src : Source) : (a ||| sourceBit src).getLsbD src.val = true := by
  rw [BitVec.getLsbD_or, sourceBit_getLsbD]
  simp

theorem not_mem_and_not_sourceBit (a : SourceSet) (src : Source) : (a &&& ~~~sourceBit src).getLsbD src.val = false := by
  rw [BitVec.getLsbD_and, BitVec.getLsbD_not, sourceBit_getLsbD]
  simp

section
variable {a l : SourceSet} {src : Source}

theorem or_sourceBit_of_mem (mem : a.getLsbD src.val = true) : a ||| sourceBit src = a := by
  refine sourceSet_ext fun x => ?_
  rw [BitVec.getLsbD_or, sourceBit_getLsbD]
  by_cases same : x = src
  · rw [same, mem]; rfl
  · simp [same]

theorem and_not_sourceBit_of_not_mem (absent : a.getLsbD src.val = false) : a &&& ~~~sourceBit src = a := by
  refine sourceSet_ext fun x => ?_
  rw [BitVec.getLsbD_and, BitVec.getLsbD_not, sourceBit_getLsbD, decide_eq_true x.isLt]
  by_cases same : x = src
  · rw [same, absent]; rfl
  · simp [same]

/-- A source that rises and is latched already adds nothing to latch. -/
theorem risen_of_latched (latched : l.getLsbD src.val = true) : (a ||| sourceBit src) &&& ~~~a &&& ~~~l = 0 := by
  refine sourceSet_ext fun x => ?_
  simp only [BitVec.getLsbD_and, BitVec.getLsbD_or, BitVec.getLsbD_not, sourceBit_getLsbD, x.isLt, decide_true, Bool.true_and]
  by_cases same : x = src
  · rw [same, latched]; simp
  · cases a.getLsbD x.val <;> simp [same]

/-- A source that rises and is not latched is what is to be latched. -/
theorem risen_of_unlatched (inactive : a.getLsbD src.val = false) (unlatched : l.getLsbD src.val = false) :
    (a ||| sourceBit src) &&& ~~~a &&& ~~~l = sourceBit src := by
  refine sourceSet_ext fun x => ?_
  simp only [BitVec.getLsbD_and, BitVec.getLsbD_or, BitVec.getLsbD_not, sourceBit_getLsbD, x.isLt, decide_true, Bool.true_and]
  by_cases same : x = src
  · rw [same, inactive, unlatched]; simp
  · cases a.getLsbD x.val <;> simp [same]

theorem fallen_latches_nothing (b : SourceSet) : a &&& b &&& ~~~a &&& ~~~l = 0 := by
  refine sourceSet_ext fun x => ?_
  simp only [BitVec.getLsbD_and, BitVec.getLsbD_not, x.isLt, decide_true, Bool.true_and]
  cases a.getLsbD x.val <;> simp

theorem sourceBit_ne_zero (src : Source) : sourceBit src ≠ 0 := fun zero => by
  have := sourceBit_getLsbD src src
  rw [zero] at this
  simp at this

theorem and_sourceBit_bne_zero (a : SourceSet) (src : Source) : (a &&& sourceBit src != 0) = a.getLsbD src.val := by
  rw [Bool.eq_iff_iff, bne_iff_ne, and_ne_zero_iff]
  constructor
  · rintro ⟨x, mem, here⟩
    rw [sourceBit_getLsbD, decide_eq_true_eq] at here
    exact here ▸ mem
  · exact fun mem => ⟨src, mem, by simp [sourceBit_getLsbD]⟩

theorem firstSource_sourceBit (src : Source) : firstSource (sourceBit src) = some src := by
  obtain ⟨x, first⟩ := Option.isSome_iff_exists.1 (firstSource_isSome.2 (sourceBit_ne_zero src))
  have mem := firstSource_mem first
  rw [sourceBit_getLsbD, decide_eq_true_eq] at mem
  rw [first, mem]

end

/-! ### The trip state moved (R153, R155) -/

/-- The states from which a latching moves on. -/
def IsEarly (state : TripState) : Prop := state = .armed ∨ state = .tripped

section
variable {now : Count} {t : TripUnit}

theorem escalate_of_late (grave : Bool) (late : ¬ IsEarly t.state) : escalate now grave t = t := by
  unfold escalate
  cases state : t.state with
  | armed | tripped => exact absurd (by simp [IsEarly, state]) late
  | stopping | stopped | off => rfl

theorem escalate_of_early {grave : Bool} (early : IsEarly t.state) :
    escalate now grave t = if grave then enterStopping now t else { t with state := .tripped } := by
  unfold escalate
  rcases early with state | state <;> rw [state]

theorem enterStopping_acknowledged (acknowledged : t.stopAck = true) : enterStopping now t = { t with state := .stopped } :=
  if_pos acknowledged

theorem enterStopping_waiting (waiting : t.stopAck = false) :
    enterStopping now t = { t with state := .stopping, stopTimer := some (now + t.stopTimeout.setWidth 32) } := by
  unfold enterStopping laterCount
  rw [if_neg (by rw [waiting]; exact Bool.false_ne_true), BitVec.ofNat_toNat]

end

/-! ### One source judged (R151, R152, R154) -/

section
variable {s : State} {src : Source}

theorem judgedActive_one (s : State) (src : Source) : judgedActive s (sourceBit src) =
    if (judgedSet s.trip s.measure.latest).getLsbD src.val then s.trip.active ||| sourceBit src else s.trip.active &&& ~~~sourceBit src :=
  judge_one _ _ src

/-- A source that is active exactly when its condition holds stays so, and nothing moves. -/
theorem judgeSources_unmoved (same : (judgedSet s.trip s.measure.latest).getLsbD src.val = s.trip.active.getLsbD src.val) :
    judgeSources s (sourceBit src) = s := by
  obtain ⟨-, -, stays⟩ := judgeSources_cases s (sourceBit src)
  have active : judgedActive s (sourceBit src) = s.trip.active := by
    rw [judgedActive_one, same]
    split
    · next on => exact or_sourceBit_of_mem on
    · next off => exact and_not_sourceBit_of_not_mem (Bool.eq_false_iff.2 off)
  exact stays (by rw [active, BitVec.and_not_self]; exact BitVec.zero_and) active

theorem judgeSources_falls (off : (judgedSet s.trip s.measure.latest).getLsbD src.val = false)
    (was : s.trip.active.getLsbD src.val = true) :
    judgeSources s (sourceBit src) = handOver (s.withTrip { s.trip with active := s.trip.active &&& ~~~sourceBit src }) := by
  obtain ⟨-, moves, -⟩ := judgeSources_cases s (sourceBit src)
  have active : judgedActive s (sourceBit src) = s.trip.active &&& ~~~sourceBit src := by rw [judgedActive_one, off]; rfl
  rw [active] at moves
  refine moves (fallen_latches_nothing _) fun same => ?_
  have left := not_mem_and_not_sourceBit s.trip.active src
  rw [same, was] at left
  cases left

theorem judgeSources_rises_latched (on : (judgedSet s.trip s.measure.latest).getLsbD src.val = true)
    (inactive : s.trip.active.getLsbD src.val = false) (latched : s.trip.latched.getLsbD src.val = true) :
    judgeSources s (sourceBit src) = handOver (s.withTrip { s.trip with active := s.trip.active ||| sourceBit src }) := by
  obtain ⟨-, moves, -⟩ := judgeSources_cases s (sourceBit src)
  have active : judgedActive s (sourceBit src) = s.trip.active ||| sourceBit src := by rw [judgedActive_one, on]; rfl
  rw [active] at moves
  refine moves (risen_of_latched latched) fun same => ?_
  have joined := mem_or_sourceBit s.trip.active src
  rw [same, inactive] at joined
  cases joined

/-- The Trip Unit with a source risen and latched, before its state moves (R152). -/
def risenBy (now : Count) (src : Source) (t : TripUnit) : TripUnit :=
  { t with
    active := t.active ||| sourceBit src
    latched := t.latched ||| sourceBit src
    capture := if t.latched = 0 then some (now, src) else t.capture }

/-- A source that rises and is not latched moves the trip state by its class and STOP_ACK, and posts TRIP. -/
theorem judgeSources_rises (on : (judgedSet s.trip s.measure.latest).getLsbD src.val = true)
    (inactive : s.trip.active.getLsbD src.val = false) (unlatched : s.trip.latched.getLsbD src.val = false) :
    let tripped := fun t : TripUnit => judgeSources s (sourceBit src) = postAll (handOver (s.withTrip t)) .trip
    let risen := risenBy s.timebase.count src s.trip
    let early := IsEarly s.trip.state
    let stopClass := s.trip.stopClass.getLsbD src.val = true
    (¬ early → tripped risen)
    ∧ (early → ¬ stopClass → tripped { risen with state := .tripped })
    ∧ (early → stopClass → s.trip.stopAck = true → tripped { risen with state := .stopped })
    ∧ (early → stopClass → s.trip.stopAck = false → tripped { risen with
        state := .stopping, stopTimer := some (s.timebase.count + s.trip.stopTimeout.setWidth 32) }) := by
  intro tripped risen early stopClass
  obtain ⟨rises, -, -⟩ := judgeSources_cases s (sourceBit src)
  have active : judgedActive s (sourceBit src) = s.trip.active ||| sourceBit src := by rw [judgedActive_one, on]; rfl
  rw [active, risen_of_unlatched inactive unlatched] at rises
  have latches : latch s.timebase.count (sourceBit src) { s.trip with active := s.trip.active ||| sourceBit src }
      = escalate s.timebase.count (s.trip.stopClass.getLsbD src.val) risen := by
    unfold latch
    rw [firstSource_sourceBit, and_sourceBit_bne_zero]
    rfl
  have goes : ∀ t, escalate s.timebase.count (s.trip.stopClass.getLsbD src.val) risen = t → tripped t := by
    rintro t rfl
    rw [← latches]
    exact rises (sourceBit_ne_zero src)
  refine ⟨fun late => goes _ (escalate_of_late _ late), fun soon mild => goes _ ?_, fun soon grave ack => goes _ ?_,
    fun soon grave wait => goes _ ?_⟩ <;> rw [escalate_of_early (t := risen) soon]
  · rw [Bool.eq_false_iff.2 mild]; rfl
  · rw [grave]; exact enterStopping_acknowledged ack
  · rw [grave]; exact enterStopping_waiting wait

/-! ### OVERTEMP and SAT -/

theorem judgedSet_overtemp (t : TripUnit) (latest : Vector (Option (BitVec 10)) 9) :
    (judgedSet t latest).getLsbD overtempSource.val = (t.enable.getLsbD 9 && t.overtemp) := judgedSet_getLsbD t latest 9

theorem judgedSet_sat (t : TripUnit) (latest : Vector (Option (BitVec 10)) 9) :
    (judgedSet t latest).getLsbD satSource.val = (t.enable.getLsbD 10 && t.saturated != 0) := judgedSet_getLsbD t latest 10

/-- Settles O48: the judgement of the one source OVERTEMP, which is active before the edge exactly when enabled and asserted. -/
theorem overtempEdgeTrips : Obligations.OvertempEdgeTrips := by
  intro s asserted edge activeOk bit enabled kept goes risen tripped stopClass early
  obtain ⟨active, -⟩ := activeOk
  have row : exec (.overtempEdge asserted) s = .next (judgeSources (s.withTrip kept) bit) := if_neg edge
  have ends : ∀ t, judgeSources (s.withTrip kept) bit = t → goes t := fun t h => row.trans (congrArg _ h)
  have was : s.trip.active.getLsbD 9 = (s.trip.enable.getLsbD 9 && s.trip.overtemp) := by
    rw [active]; exact judgedSet_overtemp s.trip s.measure.latest
  have on : (judgedSet kept s.measure.latest).getLsbD overtempSource.val = (s.trip.enable.getLsbD 9 && asserted) :=
    judgedSet_overtemp kept s.measure.latest
  have before : s.trip.overtemp = !asserted := by cases h : s.trip.overtemp <;> cases asserted <;> simp_all
  refine ⟨fun disabled => ends _ ?_, fun enable falls => ends _ ?_, fun enable rises latched => ends _ ?_,
    fun enable rises unlatched => ?_⟩
  · have off : s.trip.enable.getLsbD 9 = false := Bool.eq_false_iff.2 disabled
    exact judgeSources_unmoved (s := s.withTrip kept) (on.trans (by rw [off]; exact (was.trans (by rw [off]; rfl)).symm))
  · exact judgeSources_falls (s := s.withTrip kept) (on.trans (by rw [falls, Bool.and_false]))
      (was.trans (by rw [before, falls, show s.trip.enable.getLsbD 9 = true from enable]; rfl))
  · exact judgeSources_rises_latched (s := s.withTrip kept) (on.trans (by rw [rises, show s.trip.enable.getLsbD 9 = true from enable]; rfl))
      (was.trans (by rw [before, rises, Bool.not_true, Bool.and_false])) latched
  · obtain ⟨late, mild, acknowledged, stops⟩ := judgeSources_rises (s := s.withTrip kept) (src := overtempSource)
      (on.trans (by rw [rises, show s.trip.enable.getLsbD 9 = true from enable]; rfl))
      (was.trans (by rw [before, rises, Bool.not_true, Bool.and_false])) unlatched
    exact ⟨fun h => ends _ (late h), fun h c => ends _ (mild h c), fun h c a => ends _ (acknowledged h c a),
      fun h c a => ends _ (stops h c a)⟩

end

end Sys2Proof.Machine
end

section
/-! SUPPORT. The resolved entry as the best of the records that apply (R88 to R91), what a recompute writes in the Governor (R97), and the demand on an
actuator as the largest contribution (R129), with the statements of the entry, the recompute and the target. -/

namespace Sys2Proof.Machine

/-! ### The records that apply, and the best of them (R89, R90) -/

theorem mem_applying {t : Table} {p : Posture} {sub : Subject} {i : SlotIx} {b : Half} :
    (i, b) ∈ applying t p sub ↔ ∃ r, t[i] = some r ∧ (r.subject = sub ∧ applies p r = true) ∧ r.bound = b := by
  unfold applying
  rw [List.mem_filterMap]
  constructor
  · rintro ⟨j, -, here⟩
    split at here
    · next r slot =>
      split at here
      · next counts => cases here; exact ⟨r, slot, counts, rfl⟩
      · cases here
    · cases here
  · rintro ⟨r, slot, counts, rfl⟩
    refine ⟨i, List.mem_finRange i, ?_⟩
    simp only [slot]
    exact if_pos counts

theorem applying_sorted (t : Table) (p : Posture) (sub : Subject) : (applying t p sub).Pairwise (fun c d => c.1 < d.1) := by
  unfold applying
  rw [List.pairwise_filterMap]
  have slotOf : ∀ (i : SlotIx) (c : SlotIx × Half), (match t[i] with
      | some r => if r.subject = sub ∧ applies p r then some (i, r.bound) else none
      | none => none) = some c → c.1 = i := by
    intro i c here
    split at here
    · split at here
      · cases here; rfl
      · cases here
    · cases here
  refine (List.pairwise_lt_finRange 48).imp fun {i j} before c hc d hd => ?_
  rw [slotOf i c hc, slotOf j d hd]
  exact before

/-- The smallest bound of some candidates, and among equals the lowest slot. -/
def IsBest (l : List (SlotIx × Half)) (w : SlotIx × Half) : Prop :=
  w ∈ l ∧ ∀ c ∈ l, w.2.toNat ≤ c.2.toNat ∧ (c.2 = w.2 → w.1 ≤ c.1)

/-- The fold over candidates in ascending slot order finds none of none, and otherwise the best. -/
theorem foldl_better {l : List (SlotIx × Half)} (sorted : l.Pairwise (fun c d => c.1 < d.1)) :
    (l.foldl better none = none ↔ l = []) ∧ ∀ w, l.foldl better none = some w → IsBest l w := by
  induction l using List.reverseRecOn with
  | nil => exact ⟨iff_of_true rfl rfl, nofun⟩
  | append_singleton l c ih =>
    obtain ⟨sortedFront, -, before⟩ := List.pairwise_append.1 sorted
    obtain ⟨empty, best⟩ := ih sortedFront
    rw [List.foldl_append, List.foldl_cons, List.foldl_nil]
    cases front : l.foldl better none with
    | none =>
      rw [empty.1 front]
      refine ⟨iff_of_false nofun nofun, ?_⟩
      rintro w ⟨⟩
      exact ⟨List.mem_singleton.2 rfl, fun d here => by rw [List.mem_singleton.1 here]; exact ⟨le_rfl, fun _ => le_rfl⟩⟩
    | some b =>
      obtain ⟨mem, least⟩ := best b front
      unfold better
      dsimp only
      split
      · next smaller =>
        refine ⟨iff_of_false nofun (by simp), ?_⟩
        rintro w ⟨⟩
        refine ⟨by simp, fun d here => ?_⟩
        rcases List.mem_append.1 here with here | here
        · have := (least d here).1
          exact ⟨by omega, fun same => by rw [same] at this; omega⟩
        · rw [List.mem_singleton.1 here]; exact ⟨le_rfl, fun _ => le_rfl⟩
      · next notSmaller =>
        refine ⟨iff_of_false nofun (by simp), ?_⟩
        rintro w ⟨⟩
        refine ⟨by simp [mem], fun d here => ?_⟩
        rcases List.mem_append.1 here with here | here
        · exact least d here
        · rw [List.mem_singleton.1 here]
          exact ⟨not_lt.1 notSmaller, fun _ => (before b mem c (List.mem_singleton.2 rfl)).le⟩

/-- Whether a slot's record counts towards the entry of a subject in a posture. -/
def countsFor (t : Table) (p : Posture) (sub : Subject) (i : SlotIx) : Bool :=
  match t[i] with
  | none => false
  | some r => r.subject == sub && inMask r.mask p

theorem countsFor_iff {t : Table} {p : Posture} {sub : Subject} {i : SlotIx} :
    countsFor t p sub i = true ↔ ∃ b, (i, b) ∈ applying t p sub := by
  simp only [mem_applying]
  unfold countsFor
  cases slot : t[i] with
  | none => simp
  | some r => simp [applies]

theorem applying_length (t : Table) (p : Posture) (sub : Subject) :
    (applying t p sub).length = ((List.finRange 48).filter (countsFor t p sub)).length := by
  unfold applying
  rw [List.length_filterMap_eq_countP, List.countP_eq_length_filter]
  congr 2
  funext i
  unfold countsFor applies
  cases t[i] with
  | none => rfl
  | some r =>
    by_cases counts : r.subject = sub ∧ inMask r.mask p = true
    · simp [counts]
    · simp only [if_neg counts]
      simpa using counts

/-- Settles O35: the entry is the best of the candidates, which are the records that count, in slot order. -/
theorem entryIsStrictestApplying : Obligations.EntryIsStrictestApplying := by
  intro t p sub counts entry
  have isCounts : counts = countsFor t p sub := by
    funext i
    show (match t[i] with | none => false | some r => r.subject == sub && inMask r.mask p) = countsFor t p sub i
    unfold countsFor
    cases t[i] <;> rfl
  obtain ⟨empty, best⟩ := foldl_better (applying_sorted t p sub)
  have none_iff : (applying t p sub).foldl better none = none ↔ ∀ i, counts i = false := by
    rw [empty, List.eq_nil_iff_forall_not_mem, isCounts]
    constructor
    · intro absent i
      rw [Bool.eq_false_iff, ne_eq, countsFor_iff]
      rintro ⟨b, here⟩
      exact absent _ here
    · rintro absent ⟨i, b⟩ here
      have := countsFor_iff.2 ⟨b, here⟩
      rw [absent i] at this
      cases this
  refine ⟨?_, Option.map_eq_none_iff.trans none_iff, Option.map_eq_none_iff.trans none_iff, fun w won => ?_⟩
  · rw [isCounts]; exact applying_length t p sub
  · obtain ⟨⟨w, b⟩, folded, rfl⟩ := Option.map_eq_some_iff.1 won
    obtain ⟨mem, least⟩ := best _ folded
    obtain ⟨r, slot, -, rfl⟩ := mem_applying.1 mem
    refine ⟨by rw [isCounts]; exact countsFor_iff.2 ⟨_, mem⟩, r, slot, congrArg (Option.map _) folded, fun j q held counted => ?_⟩
    rw [isCounts] at counted
    obtain ⟨c, here⟩ := countsFor_iff.1 counted
    obtain ⟨q', held', -, rfl⟩ := mem_applying.1 here
    cases held.symm.trans held'
    exact least _ here

/-! ### The fan cap and the FAN target (R96, R97) -/

section
variable {s : State}

theorem targetLevel_fan (g : Governor) (cap : Level) : targetLevel g cap fanOutput = min (demand g fanOutput) cap := if_pos rfl

theorem targetLevel_other {g : Governor} {cap : Level} {a : OutputIx} (other : a ≠ fanOutput) : targetLevel g cap a = demand g a := if_neg other

/-- A recompute that changes the fan cap recomputes the FAN target. -/
theorem recompute_targets_of_fanCap_ne {sub : Subject} (changes : (recompute s sub).fanCap ≠ s.fanCap) :
    (recompute s sub).governor.targets =
      s.governor.targets.set fanOutput (min (demand s.governor fanOutput) (recompute s sub).fanCap) := by
  unfold recompute at changes ⊢
  dsimp only at changes ⊢
  split
  · next same => rw [if_pos same] at changes; exact absurd same changes
  · rw [recomputeTarget_targets, targetLevel_fan]; rfl

theorem recomputeList_targets_of_fanCap_ne {l : List Subject} (once : l.Nodup) (changes : (recomputeList s l).fanCap ≠ s.fanCap) :
    (recomputeList s l).governor.targets =
      s.governor.targets.set fanOutput (min (demand s.governor fanOutput) (recomputeList s l).fanCap) := by
  induction l generalizing s with
  | nil => exact absurd rfl changes
  | cons a l ih =>
    obtain ⟨notAgain, once⟩ := List.nodup_cons.1 once
    by_cases fan : a = fanCapSubject
    · subst fan
      obtain ⟨cap, governor⟩ := recomputeList_of_not_mem (recompute s fanCapSubject) notAgain
      have cap : (recomputeList s (fanCapSubject :: l)).fanCap = (recompute s fanCapSubject).fanCap := cap
      have governor : (recomputeList s (fanCapSubject :: l)).governor = (recompute s fanCapSubject).governor := governor
      rw [cap] at changes
      rw [cap, governor]
      exact recompute_targets_of_fanCap_ne changes
    · have cap := recompute_fanCap_of_ne s fan
      have governor := recompute_governor_of_ne s fan
      have rest := ih (s := recompute s a) once (by rw [cap]; exact changes)
      rw [governor] at rest
      exact rest

theorem recomputeAll_targets_of_fanCap_ne (changes : (recomputeAll s).fanCap ≠ s.fanCap) :
    (recomputeAll s).governor.targets =
      s.governor.targets.set fanOutput (min (demand s.governor fanOutput) (recomputeAll s).fanCap) := by
  unfold recomputeAll at changes ⊢
  exact recomputeList_targets_of_fanCap_ne (List.nodup_finRange 10) changes

theorem governor_of_fields {g g' : Governor} (subjects : g.subjects = g'.subjects) (routes : g.routes = g'.routes) :
    g = { g' with targets := g.targets } := by
  cases g
  cases g'
  cases subjects
  cases routes
  rfl

theorem recompute_eq (sub : Subject) : recompute s sub = { s with
    resolver := (recompute s sub).resolver
    governor := { s.governor with targets := (recompute s sub).governor.targets } } := by
  apply State.eq_of_fields
  case h5 => rfl
  case h7 => exact governor_of_fields (recompute_governor_subjects s sub) (recompute_governor_routes s sub)
  all_goals simp only [recompute_timebase, recompute_table, recompute_commitTimers, recompute_leaseClock, recompute_posture,
    recompute_measure, recompute_outputs, recompute_trip, recompute_link, recompute_profile, recompute_fresh, recompute_pending]

theorem fanCapOf_unbounded {x : Entry} (unbounded : x.limit = none) : fanCapOf x = 15 := by
  unfold fanCapOf
  rw [unbounded]

theorem fanCapOf_level {x : Entry} {b : Half} (bounded : x.limit = some b) (level : b.toNat ≤ 15) : (fanCapOf x).val = b.toNat := by
  unfold fanCapOf
  rw [bounded]
  dsimp only
  rw [if_pos level]
  exact Nat.mod_eq_of_lt (Nat.lt_succ_of_le level)

/-- Settles O36: a recompute is a write of one entry, and of the FAN target where the fan cap that the entries give is another. -/
theorem recomputeSetsOneEntry : Obligations.RecomputeSetsOneEntry :=
  ⟨fun s sub => ⟨recompute_resolver s sub, recompute_eq sub, recompute_governor_of_fanCap s, recompute_targets_of_fanCap_ne⟩,
    fun _ unbounded => congrArg Fin.val (fanCapOf_unbounded unbounded), fun _ _ bounded level => fanCapOf_level bounded level⟩

end

/-! ### The largest contribution (R129) -/

/-- A fold of `max` is an upper bound, and is the start or one of the values. -/
theorem foldl_max {α : Type} (f : α → Level) (l : List α) (start : Level) :
    start ≤ l.foldl (fun d x => max d (f x)) start ∧ (∀ x ∈ l, f x ≤ l.foldl (fun d x => max d (f x)) start)
    ∧ (l.foldl (fun d x => max d (f x)) start = start ∨ ∃ x ∈ l, f x = l.foldl (fun d x => max d (f x)) start) := by
  induction l generalizing start with
  | nil => exact ⟨le_rfl, nofun, .inl rfl⟩
  | cons a l ih =>
    obtain ⟨above, bounds, attained⟩ := ih (max start (f a))
    rw [List.foldl_cons]
    refine ⟨(le_max_left _ _).trans above, fun x here => ?_, ?_⟩
    · rcases List.mem_cons.1 here with rfl | here
      · exact (le_max_right _ _).trans above
      · exact bounds x here
    · rcases attained with same | ⟨x, here, same⟩
      · rcases max_choice start (f a) with isStart | isHead
        · exact .inl (same.trans isStart)
        · exact .inr ⟨a, List.mem_cons_self .., (same.trans isHead).symm⟩
      · exact .inr ⟨x, List.mem_cons_of_mem a here, same⟩

/-- Settles O42: the demand folds `max` over the contributions of the nine subjects. -/
theorem targetIsLargestDemand : Obligations.TargetIsLargestDemand := by
  intro g cap a makes
  have contributes : ∀ m, (contribution g a m).val = makes m := by
    intro m
    show (contribution g a m).val = (match g.routes[m][a] with | none => 0 | some offset => g.subjects[m].pressure.val - offset.val)
    unfold contribution
    cases g.routes[m][a] <;> rfl
  obtain ⟨-, bounds, attained⟩ := foldl_max (contribution g a) (List.finRange 9) 0
  refine ⟨fun m => contributes m ▸ bounds m (List.mem_finRange m), ?_, targetLevel_other, ?_⟩
  · rcases attained with zero | ⟨m, -, same⟩
    · exact .inl (congrArg Fin.val zero)
    · exact .inr ⟨m, (contributes m).symm.trans (congrArg Fin.val same)⟩
  · rw [targetLevel_fan]
    rcases le_total (demand g fanOutput) cap with below | above
    · rw [min_eq_left below, min_eq_left (Fin.le_def.1 below)]
    · rw [min_eq_right above, min_eq_right (Fin.le_def.1 above)]

end Sys2Proof.Machine
end

section
/-! SUPPORT. The two resets (R22, R23, R148, R164, R175): what full reset leaves in every block before and after OVERTEMP is judged, the entries of the
seeded records, and what SOFT RESET frees and trims, with their statements and that of the state after reset. -/

namespace Sys2Proof.Machine

/-! ### Full reset before OVERTEMP is judged -/

section
variable (p : PinLevels) (s : State)

theorem resetBlocks_judged :
    (judgedSet (resetBlocks p s).trip (resetBlocks p s).measure.latest).getLsbD overtempSource.val = p.overtemp := by
  have enabled : (0b11110000000 : SourceSet).getLsbD 9 = true := by decide
  rw [judgedSet_overtemp]
  show ((0b11110000000 : SourceSet).getLsbD 9 && p.overtemp) = p.overtemp
  rw [enabled, Bool.true_and]

theorem resetBlocks_unlatched (src : Source) :
    (resetBlocks p s).trip.active.getLsbD src.val = false ∧ (resetBlocks p s).trip.latched.getLsbD src.val = false :=
  ⟨BitVec.getLsbD_zero, BitVec.getLsbD_zero⟩

/-- Sampled deasserted, OVERTEMP moves nothing. -/
theorem fullReset_cool (cool : p.overtemp = false) : judgeSources (resetBlocks p s) (sourceBit overtempSource) = resetBlocks p s :=
  judgeSources_unmoved (by rw [resetBlocks_judged, cool, (resetBlocks_unlatched p s _).1])

/-- Judging leaves what posting TRIP does not write of the notice states. -/
theorem judgeSources_notices (which : SourceSet) (r : Requester) :
    (judgeSources s which).link.notices[r] = s.link.notices[r] ∨ (judgeSources s which).link.notices[r] = s.link.notices[r].take .trip := by
  obtain ⟨rises, moves, stays⟩ := judgeSources_cases s which
  by_cases new : judgedActive s which &&& ~~~s.trip.active &&& ~~~s.trip.latched = 0
  · by_cases same : judgedActive s which = s.trip.active
    · rw [stays new same]; exact .inl rfl
    · rw [moves new same]; exact .inl rfl
  · rw [rises new, postAll_notices]; exact .inr rfl

theorem resetBlocks_notices (r : Requester) : (resetBlocks p s).link.notices[r] = Default.notices := by
  simp [resetBlocks, Default.link]

end

/-! ### The seeded records (Table 11-1) -/

/-- The record seeded in slot k is the one the k-th seed gives. -/
theorem seedRecord_of_seed {n : Fin 4} {k : SlotIx} {seed : Subject × Mask × Vector Half 4} (here : Default.seeds[k.val]? = some seed) :
    Default.seedRecord n k = some {
      state := .live, owner := 0, subject := seed.1, tag := BitVec.ofNat 8 (0xF0 + k.val), cls := .anchored, bound := seed.2.2[n]
      mask := seed.2.1, pendingBound := none, pendingMask := none, lease := none, generation := 0 } := by
  unfold Default.seedRecord
  rw [here]

theorem defaultTable_free {n : Fin 4} {k : SlotIx} (beyond : 10 ≤ k.val) : (Default.table n)[k] = none := by
  have none : Default.seeds[k.val]? = Option.none := List.getElem?_eq_none beyond
  rw [defaultTable_get, Default.seedRecord, none]

theorem defaultProfile_val (p : PinLevels) : (Default.profile p).val = 2 * p.prof1.toNat + p.prof0.toNat := by
  unfold Default.profile
  cases p.prof1 <;> cases p.prof0 <;> rfl

/-- The settle of full reset (R81). -/
theorem defaultSettle_cases (p : PinLevels) :
    (rawPosture (Default.levels p) = .bag → Default.settle p = none)
    ∧ (rawPosture (Default.levels p) ≠ .bag → Default.settle p =
        some ⟨rawPosture (Default.levels p), .loose, 3000, if p.motion = true then none else some 3000⟩) := by
  unfold Default.settle
  constructor
  · intro bag
    rw [bag]
  · intro notBag
    split
    · next bag => exact absurd bag notBag
    · rfl

/-- Settles O5: judging OVERTEMP writes nothing outside the Trip Unit, the outputs and the pending sets, and the rest are the default values. -/
theorem fullResetStartsTheBlocks : Obligations.FullResetStartsTheBlocks := by
  intro p s
  have table : (judgeSources (resetBlocks p s) (sourceBit overtempSource)).table = Default.table (Default.profile p) := judgeSources_table _ _
  have timers : ∀ sub : Subject, Default.commitTimers[sub].staged = none
      ∧ Default.commitTimers[sub].nextExpiry.toNat = 125 * 2 ^ Default.commitTimers[sub].exponent.val := by decide
  have posture : (judgeSources (resetBlocks p s) (sourceBit overtempSource)).posture = Default.posture p := judgeSources_posture _ _
  have measure : (judgeSources (resetBlocks p s) (sourceBit overtempSource)).measure = Default.measure := judgeSources_measure _ _
  have governor : (judgeSources (resetBlocks p s) (sourceBit overtempSource)).governor = Default.governor := judgeSources_governor _ _
  have atRest : ∀ m : Measured, Default.governor.subjects[m].pressure = 0 ∧ Default.governor.subjects[m].lastStep = none
      ∧ Default.governor.subjects[m].runStart = none ∧ Default.governor.subjects[m].saturated = false := by decide
  obtain ⟨steady, settling⟩ := defaultSettle_cases p
  refine ⟨_, rfl, judgeSources_timebase _ _, ?_, ?_, ?_, ?_, ?_, ?_, judgeSources_leaseClock _ _, ?_⟩
  · rw [judgeSources_profile]; exact defaultProfile_val p
  · rw [table, judgeSources_profile]; rfl
  · intro k small
    have here : Default.seeds[k.val]? = some Default.seeds[k.val] := List.getElem?_eq_getElem small
    have column : ∀ {β : Type} (f : Subject × Mask × Vector Half 4 → β), (Default.seeds.map f)[k.val]? = some (f Default.seeds[k.val]) :=
      fun f => by rw [List.getElem?_map, here]; rfl
    refine ⟨_, _, _, Default.seeds[k.val].2.2[Default.profile p], column (·.1), column (·.2.1), column (·.2.2.toList), ?_, ?_⟩
    · rw [judgeSources_profile]
      simp [resetBlocks]
    · rw [table, defaultTable_get, seedRecord_of_seed here]
  · intro k beyond
    rw [table]; exact defaultTable_free beyond
  · rw [judgeSources_commitTimers]; exact (by decide : Default.commitTimers.toList.map (·.exponent) = [0, 5, 1, 0, 0, 2, 6, 6, 6, 3])
  · rw [judgeSources_commitTimers]; exact timers
  · rw [posture, measure, governor, judgeSources_resolver, table, judgeSources_link_execution, judgeSources_link_slot,
      judgeSources_link_voidFrame]
    refine ⟨rfl, fun i => by simp [Default.posture], rfl, rfl, rfl, rfl, steady, settling, fun sub => by simp [resetBlocks, Default.resolver],
      rfl, rfl, fun c => by simp [Default.measure], fun m => by simp [Default.measure], by decide, atRest, by decide, by decide,
      fun a => by simp [Default.governor], rfl, rfl, rfl, fun r => ?_⟩
    rcases judgeSources_notices (resetBlocks p s) (sourceBit overtempSource) r with same | trip
    · rw [same, resetBlocks_notices]; exact ⟨rfl, rfl, rfl, rfl, rfl⟩
    · rw [trip, resetBlocks_notices]; exact ⟨by decide, rfl, rfl, rfl, rfl⟩

/-! ### OVERTEMP judged at full reset (R148, R164) -/

/-- Sampled asserted, OVERTEMP is latched from an empty set, is stop-class, and starts the handshake as STOP_ACK stands. -/
theorem fullReset_hot {p : PinLevels} (s : State) (hot : p.overtemp = true) : ∃ x : TripUnit,
    judgeSources (resetBlocks p s) (sourceBit overtempSource) = postAll (handOver ((resetBlocks p s).withTrip x)) .trip
    ∧ x.active = sourceBit overtempSource ∧ x.latched = sourceBit overtempSource ∧ x.capture = some (0, overtempSource)
    ∧ (p.stopAck = false → x.state = .stopping ∧ x.stopTimer = some 50)
    ∧ (p.stopAck = true → x.state = .stopped ∧ x.stopTimer = none) := by
  obtain ⟨inactive, unlatched⟩ := resetBlocks_unlatched p s overtempSource
  obtain ⟨-, -, acknowledged, stops⟩ := judgeSources_rises ((resetBlocks_judged p s).trans hot) inactive unlatched
  have grave : (0b01010000000 : SourceSet).getLsbD 9 = true := by decide
  have timer : some ((0 : Count) + (50 : Byte).setWidth 32) = some 50 := by decide
  have alone : (0 : SourceSet) ||| sourceBit overtempSource = sourceBit overtempSource := by decide
  cases ack : p.stopAck with
  | true => exact ⟨_, acknowledged (.inl rfl) grave ack, alone, alone, rfl, nofun, fun _ => ⟨rfl, rfl⟩⟩
  | false => exact ⟨_, stops (.inl rfl) grave ack, alone, alone, rfl, fun _ => ⟨rfl, timer⟩, nofun⟩

/-- What a judgement of its force condition does not write of an output, a hand-over leaves of all of them. -/
theorem handOver_outputs_map {β : Type} (s : State) (f : Output → β) (kept : ∀ active latched o, f (judgeOutput active latched o) = f o) :
    (handOver s).outputs.toList.map f = s.outputs.toList.map f := by
  refine List.ext_getElem (by simp) fun i _ _ => ?_
  simp [handOver, kept]

/-- Settles O6: deasserted, OVERTEMP is judged without effect; asserted, it latches as `fullReset_hot` has it, and every output's mask holds it. -/
theorem fullResetJudgesOvertemp : Obligations.FullResetJudgesOvertemp := by
  intro p s
  obtain ⟨overtemp, stopAck, saturated, enable, stopClass, levels, stopTimeout⟩ :=
    judgeSources_settings (resetBlocks p s) (sourceBit overtempSource)
  refine ⟨_, rfl, overtemp, stopAck, saturated, enable, stopClass, stopTimeout, ?_, fun cool => ?_, fun hot => ?_, ?_⟩
  · rw [levels]; rfl
  · rw [fullReset_cool p s cool]
    have tracking : ∀ ix : OutputIx, Default.outputs[ix].state = .tracking := by decide
    refine ⟨rfl, rfl, rfl, rfl, rfl, tracking, fun r => ?_⟩
    rw [resetBlocks_notices]; rfl
  · obtain ⟨x, judged, active, latched, capture, waiting, acknowledged⟩ := fullReset_hot s hot
    have forced : ∀ ix : OutputIx, forceCondition (sourceBit overtempSource) (sourceBit overtempSource) Default.outputs[ix] = true := by decide
    rw [judged]
    refine ⟨active, latched, capture, waiting, acknowledged, fun ix => ?_, fun r => ?_⟩
    · rw [postAll_outputs, handOver_output]
      exact (judgeOutput_forced _ _ _).2 (by rw [State.withTrip_trip, active, latched]; exact forced ix)
    · rw [postAll_notices, handOver_link, State.withTrip_link, resetBlocks_notices]
      decide
  · have default : Default.outputs.toList.map (fun o => (o.period, o.staged, o.nextEnd, o.applied, o.cutoff, o.mask, o.restart)) =
        [(64, none, ⟨1, 24⟩, 0, .full, 0b11110000000, .manual), (64, none, ⟨1, 24⟩, 0, .full, 0b11110000000, .manual),
         (16, none, ⟨0, 256⟩, 0, .zero, 0b01110000000, .auto), (3, none, ⟨0, 48⟩, 0, .full, 0b01010000000, .auto)] := rfl
    cases hot : p.overtemp with
    | false => rw [fullReset_cool p s hot]; exact default
    | true =>
      obtain ⟨x, judged, -⟩ := fullReset_hot s hot
      rw [judged, postAll_outputs, handOver_outputs_map _ _ fun active latched o => by rw [judgeOutput_eq]]
      exact default

/-! ### The entries of the seeded records (Tables 11-1 to 11-3) -/

/-- Settles O7: the entries are computed from the ten seeded records of each profile. -/
theorem seededEntries : Obligations.SeededEntries := by
  have unbounded : ∀ p ∈ [Posture.desk, .lap, .bag], ∀ (n : Fin 4), ∀ sub ∈ ([2, 3, 4, 5] : List Subject),
      computeEntry (Default.table n) p sub = ⟨none, none, 0⟩ := by decide +kernel
  refine ⟨?_, ?_, ?_, ?_, ?_, ?_, ?_, ?_, ?_, ?_, ?_, ?_, fun n p => unbounded p (by cases p <;> simp) n⟩ <;> decide +kernel

/-! ### The state after reset -/

/-- The state after reset is the blocks of a full reset that sampled every level low; OVERTEMP, judged, moves nothing. -/
theorem reset_eq_resetBlocks : State.reset = resetBlocks Default.lowPins State.reset := rfl

theorem reset_eq_fullReset : State.reset = judgeSources (resetBlocks Default.lowPins State.reset) (sourceBit overtempSource) :=
  reset_eq_resetBlocks.trans (fullReset_cool Default.lowPins State.reset rfl).symm

/-- Settles O60: each invariant holds of the blocks of a full reset. -/
theorem resetIsSound : Obligations.ResetIsSound := by
  have trips : TripHolds (fun _ => False) State.reset := by
    rw [reset_eq_fullReset]
    exact tripHolds_judge_one (tripHolds_resetBlocks Default.lowPins State.reset) fun _ => id
  obtain ⟨trip, active, outputs⟩ := tripSound_none_iff.1 trips
  refine ⟨defaultTable_ok _, resolvedOk_resetBlocks Default.lowPins State.reset, targetsOk_resetBlocks Default.lowPins State.reset,
    defaultPosture_ok _, measureOk_resetBlocks Default.lowPins State.reset, trip, active, outputs,
    noticesOk_resetBlocks Default.lowPins State.reset, nofun, nothingMissed_iff.2 fun i due => ?_⟩
  rw [reset_eq_fullReset] at due
  exact absurd due (not_due_fullReset Default.lowPins)

/-! ### A completed state (R169) -/

section
variable (u : State) (e : Execution) (status : Status) (payload : List Byte)

@[simp] theorem completed_timebase : (completed u e status payload).timebase = u.timebase := rfl
@[simp] theorem completed_table : (completed u e status payload).table = u.table := rfl
@[simp] theorem completed_commitTimers : (completed u e status payload).commitTimers = u.commitTimers := rfl
@[simp] theorem completed_leaseClock : (completed u e status payload).leaseClock = u.leaseClock := rfl
@[simp] theorem completed_posture : (completed u e status payload).posture = u.posture := rfl
@[simp] theorem completed_resolver : (completed u e status payload).resolver = u.resolver := rfl
@[simp] theorem completed_measure : (completed u e status payload).measure = u.measure := rfl
@[simp] theorem completed_governor : (completed u e status payload).governor = u.governor := rfl
@[simp] theorem completed_outputs : (completed u e status payload).outputs = u.outputs := rfl
@[simp] theorem completed_trip : (completed u e status payload).trip = u.trip := rfl
@[simp] theorem completed_profile : (completed u e status payload).profile = u.profile := rfl
@[simp] theorem completed_fresh : (completed u e status payload).fresh = u.fresh := rfl
@[simp] theorem completed_pending : (completed u e status payload).pending = u.pending := rfl
@[simp] theorem completed_execution : (completed u e status payload).link.execution = none := rfl
@[simp] theorem completed_sdo : (completed u e status payload).link.sdo = u.link.sdo := rfl
@[simp] theorem completed_voidFrame : (completed u e status payload).link.voidFrame = u.link.voidFrame := rfl
@[simp] theorem completed_fanCap : (completed u e status payload).fanCap = u.fanCap := rfl

@[simp] theorem completed_notices : (completed u e status payload).link.notices =
    u.link.notices.set e.requester { u.link.notices[e.requester] with reported := u.link.notices[e.requester].pending } := rfl

@[simp] theorem completed_slot : (completed u e status payload).link.slot = some {
    response := {
      status := status
      priorUnread := match u.link.slot with | none => false | some held => !held.fetched
      dropped := e.dropped
      requester := e.requester
      notices := u.link.notices[e.requester].pending
      payload := payload }
    fetched := false } := rfl

end

/-! ### SOFT RESET (R23, R175) -/

/-- The part after the claim of a SOFT RESET, before its response. -/
def softReset (s : State) : State :=
  postAll ((recomputeAll (s.withTable (rewrite s.table softened))).withNotices (Vector.replicate 8 Default.notices)) .reset

section
variable (s : State)

theorem softReset_table : (softReset s).table = rewrite s.table softened := by simp [softReset]

theorem softReset_resolver : (softReset s).resolver = (recomputeAll (s.withTable (rewrite s.table softened))).resolver := by
  simp [softReset, State.withNotices]

theorem softReset_governor : (softReset s).governor = (recomputeAll (s.withTable (rewrite s.table softened))).governor := by
  simp [softReset, State.withNotices]

theorem softReset_fanCap : (softReset s).fanCap = (recomputeAll (s.withTable (rewrite s.table softened))).fanCap :=
  fanCap_congr (softReset_resolver s)

/-- The Governor moves with the fan cap alone (R97). -/
theorem softReset_fanTarget : ((softReset s).fanCap = s.fanCap → (softReset s).governor = s.governor)
    ∧ ((softReset s).fanCap ≠ s.fanCap → (softReset s).governor.targets =
        s.governor.targets.set fanOutput (min (demand s.governor fanOutput) (softReset s).fanCap)) := by
  have governor : (s.withTable (rewrite s.table softened)).governor = s.governor := State.withTable_governor s _
  have cap : (s.withTable (rewrite s.table softened)).fanCap = s.fanCap := fanCap_congr (State.withTable_resolver s _)
  rw [softReset_fanCap, softReset_governor, ← governor, ← cap]
  exact ⟨recomputeAll_governor_of_fanCap _, recomputeAll_targets_of_fanCap_ne⟩

theorem softReset_notices (r : Requester) : (softReset s).link.notices[r] = Default.notices.take .reset := by
  unfold softReset
  rw [postAll_notices]
  simp [State.withNotices]

theorem softReset_slot : (softReset s).link.slot = s.link.slot := by simp [softReset, State.withNotices]

theorem softReset_eq : softReset s = { s with
    table := (softReset s).table
    resolver := (softReset s).resolver
    governor := { s.governor with targets := (softReset s).governor.targets }
    link := { s.link with notices := (softReset s).link.notices } } := by
  apply State.eq_of_fields
  case h7 => exact governor_of_fields (by simp [softReset_governor]) (by simp [softReset_governor])
  all_goals simp [softReset, State.withNotices, postAll]

end

/-- Settles O8: the records by their class, the entries and the FAN target by the recompute of every subject, and the notice states by the one posted. -/
theorem softResetFreesAndTrims : Obligations.SoftResetFreesAndTrims := by
  rintro s ⟨_, c, dropped, age⟩ executing command rfl
  have execution : (softReset s).link.execution = some ⟨0, c, dropped, age⟩ := by simpa [softReset, State.withNotices] using executing
  have row : exec .softReset s = .next (completed (softReset s) ⟨0, c, dropped, age⟩ .ok []) :=
    (exec_softReset executing command).trans (answer_completed execution .ok [])
  have slots : ∀ i : SlotIx, (softReset s).table[i] = s.table[i].bind softened := fun i => by rw [softReset_table, rewrite_get]
  have entries := recomputeAll_entry (s.withTable (rewrite s.table softened))
  obtain ⟨unchanged, changed⟩ := softReset_fanTarget s
  have empty : Default.notices.take .reset = ⟨Notice.bit .reset, 0, 0, none, none, none⟩ := by decide
  refine ⟨_, row, fun i free => ?_, fun i r held ordinary => ?_, fun i r held anchored => ?_, fun sub => ?_, fun same => ?_, fun changes => ?_,
    fun r => ?_, rfl, ?_, ?_⟩
  · rw [completed_table, slots, free]; rfl
  · rw [completed_table, slots, held, Option.bind_some, softened, ordinary]
  · rw [completed_table, slots, held, Option.bind_some, softened, anchored]
  · rw [completed_resolver, completed_table, softReset_resolver, softReset_table]; exact entries sub
  · rw [completed_fanCap] at same
    rw [completed_governor, unchanged same]
  · rw [completed_fanCap] at changes
    rw [completed_governor, completed_fanCap, changed changes]
  · rw [completed_notices]
    by_cases zero : r = 0
    · subst zero
      rw [Fin.getElem_fin, Vector.getElem_set_self, softReset_notices, empty]; rfl
    · have apart : (0 : Requester).val ≠ r.val := fun h => zero (Fin.ext h.symm)
      rw [Fin.getElem_fin, Vector.getElem_set_ne _ _ apart, if_neg zero]
      exact (softReset_notices s r).trans empty
  · rw [completed_slot]
    refine ⟨_, rfl, rfl, rfl, rfl, rfl, ?_, rfl, ?_⟩
    · dsimp only
      rw [softReset_notices, empty]
    · dsimp only
      rw [softReset_slot]
      cases s.link.slot <;> simp
  · obtain ⟨table, resolver, targets, notices, written⟩ : ∃ table resolver targets notices, softReset s = { s with
        table := table
        resolver := resolver
        governor := { s.governor with targets := targets }
        link := { s.link with notices := notices } } := ⟨_, _, _, _, softReset_eq s⟩
    rw [written]
    rfl

end Sys2Proof.Machine
end

section
/-! SUPPORT. The settle machine at an edge of LID, DOCK or CONTACT (R72 to R75), the spot-check request of a falling ADP_PRES (R71, R112) and the posture
change of an expired settle (R77, R78), one equation per case, with their statements. -/

namespace Sys2Proof.Machine

/-! ### The settle machine after an edge (R72, R74, R75) -/

theorem rawPosture_eq (levels : Vector Bool 5) : rawPosture levels =
    if levels[0] = false then (if levels[1] = true then .desk else .bag)
    else if levels[1] = false ∧ levels[2] = true then .lap else .desk := by
  unfold rawPosture
  generalize levels[0] = lid
  generalize levels[1] = dock
  generalize levels[2] = contact
  revert lid dock contact
  decide

section
variable {s : State} {before : Posture}

theorem settleAfter_of_same (same : rawPosture s.posture.levels = before) : settleAfter s before = s := if_pos same

theorem settleAfter_of_current (moved : rawPosture s.posture.levels ≠ before) (current : rawPosture s.posture.levels = s.posture.current) :
    settleAfter s before = s.withSettle none := (if_neg moved).trans (if_pos current)

theorem settleAfter_of_other (moved : rawPosture s.posture.levels ≠ before) (other : rawPosture s.posture.levels ≠ s.posture.current) :
    settleAfter s before = startSettle s (rawPosture s.posture.levels) := (if_neg moved).trans (if_neg other)

theorem startSettle_strict {p : Posture} (stricter : postureIndex s.posture.current < postureIndex p) :
    startSettle s p = runSettle s ⟨p, .strict, s.posture.strictTime, none⟩ := if_pos (decide_eq_true stricter)

theorem startSettle_loose {p : Posture} (looser : postureIndex p < postureIndex s.posture.current) : startSettle s p =
    if s.posture.levels[motionIndex] then s.withSettle (some ⟨p, .loose, s.posture.looseTime, none⟩)
    else runSettle s ⟨p, .loose, s.posture.looseTime, none⟩ := by
  have notStricter : ¬ stricter p s.posture.current = true := fun h => absurd (of_decide_eq_true h) looser.not_gt
  exact if_neg notStricter

end

/-- Settles O31: Table 4-2 by its eight rows; an edge keeps the level and leaves the rest to the settle machine, one equation per case. -/
theorem postureEdgeActsOnSettle : Obligations.PostureEdgeActsOnSettle := by
  refine ⟨rawPosture_eq, fun s input level edge => ?_⟩
  intro kept raw settling
  have row : exec (.postureInputEdge input level) s = .next (settleAfter kept (rawPosture s.posture.levels)) := if_neg edge
  have motion : kept.posture.levels[motionIndex] = s.posture.levels[motionIndex] :=
    levels_set_motion (inputIndex_ne_motionIndex input) level
  have ends : ∀ t, settleAfter kept (rawPosture s.posture.levels) = t → exec (.postureInputEdge input level) s = .next t :=
    fun t h => row.trans (congrArg _ h)
  have apart : ∀ {p q : Posture}, postureIndex p < postureIndex q → p ≠ q := fun before same => absurd (same ▸ before) (lt_irrefl _)
  refine ⟨fun same => ends _ (settleAfter_of_same same), fun moved current => ends _ (settleAfter_of_current moved current),
    fun moved stricter => ?_, fun moved looser => ?_⟩
  · have starts := (settleAfter_of_other (s := kept) moved (apart stricter).symm).trans (startSettle_strict stricter)
    exact ⟨fun lasts => ends _ (starts.trans (runSettle_of_ne_zero lasts)), fun instant => ends _ (starts.trans (runSettle_of_eq_zero instant))⟩
  · have starts := (settleAfter_of_other (s := kept) moved (apart looser)).trans (startSettle_loose looser)
    rw [motion] at starts
    refine ⟨fun held => ends _ (starts.trans (if_pos held)), fun free lasts => ends _ ?_, fun free instant => ends _ ?_⟩
    · rw [starts, free]; exact runSettle_of_ne_zero lasts
    · rw [starts, free]; exact runSettle_of_eq_zero instant

/-- Settles O33: a rising edge is kept alone; a falling one hands the sequencer a request, whose answer is one equation of `requestSpot`. -/
theorem adapterEdgeRequestsSpotCheck : Obligations.AdapterEdgeRequestsSpotCheck := by
  intro s present edge kept due spot
  have row : exec (.adpPresEdge present) s =
      .next (if present then kept else kept.withSequencer (requestSpot s.timebase s.measure.sequencer)) := if_neg edge
  refine ⟨fun rises => by rw [row, rises]; rfl, ?_⟩
  rintro rfl
  have requests : ∀ q, s.measure.sequencer = q →
      exec (.adpPresEdge false) s = .next (kept.withSequencer (requestSpot s.timebase q)) := by
    rintro q rfl
    exact row
  refine ⟨fun idle => requests _ idle, fun left starting => requests _ starting, fun c moment converting => requests _ converting,
    fun c left gap => requests _ gap, fun moment resume spotting => (requests _ spotting).trans ?_⟩
  have same : kept.withSequencer (.spot moment resume) = kept := by rw [← spotting]; rfl
  exact congrArg _ same

/-! ### The posture change (R77, R78) -/

section
variable (s : State) (p : Posture)

/-- The state whose every subject a posture change recomputes. -/
def settledIn : State :=
  s.withPosture { s.posture with current := p, settle := none, lastChange := some (s.timebase.count, s.posture.current) }

theorem changePosture_eq_settledIn : changePosture s p = postAll (recomputeAll (settledIn s p)) .posture := rfl

theorem changePosture_resolver_eq : (changePosture s p).resolver = (recomputeAll (settledIn s p)).resolver := by
  rw [changePosture_eq_settledIn, postAll_resolver]

theorem changePosture_fanCap : (changePosture s p).fanCap = (recomputeAll (settledIn s p)).fanCap :=
  fanCap_congr (changePosture_resolver_eq s p)

theorem changePosture_entry (sub : Subject) : (changePosture s p).resolver[sub] = computeEntry s.table p sub := by
  rw [changePosture_resolver_eq]
  exact recomputeAll_entry (settledIn s p) sub

/-- The Governor moves with the fan cap alone (R97). -/
theorem changePosture_fanTarget : ((changePosture s p).fanCap = s.fanCap → (changePosture s p).governor = s.governor)
    ∧ ((changePosture s p).fanCap ≠ s.fanCap → (changePosture s p).governor.targets =
        s.governor.targets.set fanOutput (min (demand s.governor fanOutput) (changePosture s p).fanCap)) := by
  have governor : (settledIn s p).governor = s.governor := rfl
  have cap : (settledIn s p).fanCap = s.fanCap := rfl
  rw [changePosture_fanCap, changePosture_eq_settledIn, postAll_governor, ← governor, ← cap]
  exact ⟨recomputeAll_governor_of_fanCap _, recomputeAll_targets_of_fanCap_ne⟩

theorem changePosture_eq : ∃ resolver targets notices, changePosture s p = { s with
    posture := { s.posture with current := p, settle := none, lastChange := some (s.timebase.count, s.posture.current) }
    resolver
    governor := { s.governor with targets }
    link := { s.link with notices } } := by
  obtain ⟨resolver, targets, recomputed⟩ : ∃ resolver targets, recomputeAll (settledIn s p) =
      { settledIn s p with resolver, governor := { (settledIn s p).governor with targets } } :=
    ⟨_, _, recomputeAll_eq _⟩
  refine ⟨resolver, targets, Vector.ofFn fun r : Requester => s.link.notices[r].take .posture, ?_⟩
  rw [changePosture_eq_settledIn, recomputed]
  rfl

end

/-- Settles O34: the row is the posture change, which recomputes every subject and posts POSTURE. -/
theorem settleExpiryChangesPosture : Obligations.SettleExpiryChangesPosture := by
  intro s x settling due
  have row : exec .settleTimerExpiry s = .next (changePosture s x.candidate) := by
    simp only [exec, execSettleTimerExpiry, settling, due, if_true]
  obtain ⟨unchanged, changed⟩ := changePosture_fanTarget s x.candidate
  refine ⟨_, row, rfl, changePosture_posture s x.candidate, changePosture_entry s x.candidate, unchanged, changed, fun r => ?_, ?_⟩
  · rw [changePosture_eq_settledIn, postAll_notices, recomputeAll_link]
    rfl
  · obtain ⟨_, _, _, changed⟩ := changePosture_eq s x.candidate
    rw [changed]

end Sys2Proof.Machine
end

section
/-! SUPPORT. The commands that write settings: SET COMMIT, SET POSTURE, SET SCAN, SET SENSE (R56, R83, R104, R111), one equation per outcome of their claims,
with their statement. -/

namespace Sys2Proof.Machine

/-! ### A claim and its answer -/

section
variable {s : State} {e : Execution} (executing : s.link.execution = some e) {i : Instr} {p : State × Reply}
include executing

/-- A claim that is refused answers with its status alone (R24). -/
theorem answers_of_refuse (row : exec i s = answer p) {status : Status} (refused : p = refuse s status) : Answers i s e status [] := by
  rw [refused] at row
  exact row.trans (answer_completed executing status [])

/-- A claim that is accepted answers OK from the state it left, in which the command is still in execution. -/
theorem next_of_accept (row : exec i s = answer p) {u : State} (accepted : p = accept u) (kept : u.link.execution = s.link.execution) :
    exec i s = .next (completed u e .ok []) := by
  rw [accepted] at row
  exact row.trans (answer_completed (kept.trans executing) .ok [])

/-- A claim that reads answers from the state as it is. -/
theorem answers_of_read (row : exec i s = answer p) {status : Status} {payload : List Byte} (reads : p = (s, ⟨status, payload⟩)) :
    Answers i s e status payload := by
  rw [reads] at row
  exact row.trans (answer_completed executing status payload)

end

/-! ### The claims -/

section
variable (s : State)

theorem setCommitClaim_of_inRange {subject exponent : Byte} {sub : Subject} {n : Fin 8} (names : subject.toNat = sub.val)
    (is : exponent.toNat = n.val) : setCommitClaim subject exponent s =
      accept (s.withCommitTimers (s.commitTimers.set sub (stageExponent n s.commitTimers[sub]))) := by
  rw [setCommitClaim, below_eq.mpr names, below_eq.mpr is]

theorem setCommitClaim_of_outOfRange {subject exponent : Byte} (out : 9 < subject.toNat ∨ 7 < exponent.toNat) :
    setCommitClaim subject exponent s = refuse s .range := by
  unfold setCommitClaim
  rcases out with subjectOut | exponentOut
  · rw [below_eq_none.mpr subjectOut]
  · rw [(below_eq_none (b := exponent)).mpr exponentOut]
    cases below 10 subject <;> rfl

/-- A settle time is accepted when it is absent, or within its limit and a whole multiple of its step (R83). -/
theorem settleTimeAccepted_iff {present : Bool} {limit step : Nat} {t : Half} : settleTimeAccepted present limit step t = true ↔
    (present = true → t.toNat ≤ limit ∧ t.toNat % step = 0) := by
  cases present <;> simp [settleTimeAccepted]

theorem setPostureClaim_of_accepted {flags : Byte} {strict loose : Half} (known : flags.toNat ≤ 3)
    (strictOk : flags.getLsbD 0 = true → strict.toNat ≤ 2550 ∧ strict.toNat % 10 = 0)
    (looseOk : flags.getLsbD 1 = true → loose.toNat ≤ 25500 ∧ loose.toNat % 100 = 0) :
    setPostureClaim flags strict loose s = accept (s.withPosture { s.posture with
      strictTime := if flags.getLsbD 0 then strict else s.posture.strictTime
      looseTime := if flags.getLsbD 1 then loose else s.posture.looseTime }) :=
  if_pos ⟨Nat.lt_succ_of_le known, settleTimeAccepted_iff.mpr strictOk, settleTimeAccepted_iff.mpr looseOk⟩

theorem setPostureClaim_of_refused {flags : Byte} {strict loose : Half}
    (out : 3 < flags.toNat ∨ (flags.getLsbD 0 = true ∧ ¬ (strict.toNat ≤ 2550 ∧ strict.toNat % 10 = 0))
      ∨ (flags.getLsbD 1 = true ∧ ¬ (loose.toNat ≤ 25500 ∧ loose.toNat % 100 = 0))) :
    setPostureClaim flags strict loose s = refuse s .range := by
  refine if_neg ?_
  rintro ⟨known, strictOk, looseOk⟩
  rw [settleTimeAccepted_iff] at strictOk looseOk
  rcases out with unknown | ⟨present, wrong⟩ | ⟨present, wrong⟩
  · omega
  · exact wrong (strictOk present)
  · exact wrong (looseOk present)

theorem setScanClaim_of_period {units : Byte} {p : ScanPeriod}
    (is : units = (match p with | .us500 => 1 | .us1000 => 2 | .us2000 => 4 | .us4000 => 8)) : setScanClaim units s =
      accept (s.withMeasure { s.measure with
        scan := { s.measure.scan with staged := if p = s.measure.scan.period then none else some p } }) := by
  have reads : scanPeriodOf units = some p := by
    rw [is]
    cases p <;> rfl
  rw [setScanClaim, reads]

theorem setScanClaim_of_other {units : Byte} (n1 : units ≠ 1) (n2 : units ≠ 2) (n4 : units ≠ 4) (n8 : units ≠ 8) :
    setScanClaim units s = refuse s .range := by
  have reads : scanPeriodOf units = none := by
    rw [scanPeriodOf, if_neg n1, if_neg n2, if_neg n4, if_neg n8]
  rw [setScanClaim, reads]

theorem setSenseClaim_of_inRange {subject gain shift : Byte} {m : Measured} {k : Fin 13} (names : subject.toNat = m.val)
    (is : shift.toNat = k.val) : setSenseClaim subject gain shift s =
      accept (s.withMeasure { s.measure with gains := s.measure.gains.set m gain, shifts := s.measure.shifts.set m k }) := by
  rw [setSenseClaim, below_eq.mpr names, below_eq.mpr is]

theorem setSenseClaim_of_outOfRange {subject gain shift : Byte} (out : 8 < subject.toNat ∨ 12 < shift.toNat) :
    setSenseClaim subject gain shift s = refuse s .range := by
  unfold setSenseClaim
  rcases out with subjectOut | shiftOut
  · rw [below_eq_none.mpr subjectOut]
  · rw [(below_eq_none (b := shift)).mpr shiftOut]
    cases below 9 subject <;> rfl

end

/-- Settles O29: each row answers its claim, and each claim has one equation in range and one out of range. -/
theorem settingsWritten : Obligations.SettingsWritten := by
  intro s e executing
  refine ⟨fun subject exponent sub n command names is => ?_, fun subject exponent command out => ?_, fun flags strict loose command => ⟨?_, ?_⟩,
    fun units p command is => ?_, fun units command n1 n2 n4 n8 => ?_, fun subject gain shift m k command names is => ?_,
    fun subject gain shift command out => ?_⟩
  · exact next_of_accept executing (exec_setCommit executing _ _ command) (setCommitClaim_of_inRange s names is) rfl
  · exact answers_of_refuse executing (exec_setCommit executing _ _ command) (setCommitClaim_of_outOfRange s out)
  · intro known strictOk looseOk
    exact next_of_accept executing (exec_setPosture executing _ _ _ command) (setPostureClaim_of_accepted s known strictOk looseOk) rfl
  · intro out
    exact answers_of_refuse executing (exec_setPosture executing _ _ _ command) (setPostureClaim_of_refused s out)
  · exact next_of_accept executing (exec_setScan executing _ command) (setScanClaim_of_period s is) rfl
  · exact answers_of_refuse executing (exec_setScan executing _ command) (setScanClaim_of_other s n1 n2 n4 n8)
  · exact next_of_accept executing (exec_setSense executing _ _ _ command) (setSenseClaim_of_inRange s names is) rfl
  · exact answers_of_refuse executing (exec_setSense executing _ _ _ command) (setSenseClaim_of_outOfRange s out)

end Sys2Proof.Machine
end

section
/-! SUPPORT. The Output Stage (chapter 8): moments and periods, the force condition judged, period ends, the pulse, SET OUTPUT; and RESUME, which hands the
sets over (R159). One equation per case, with their statements. -/

namespace Sys2Proof.Machine

/-! ### Moments (R52, R103) -/

section
variable (m : Moment) (n : Nat)

theorem later_count_toNat : (m.later n).count.toNat = (m.count.toNat + (m.micro.val + n) / 1000) % 2 ^ 32 := by
  simp [Moment.later]

theorem later_micro_val : (m.later n).micro.val = (m.micro.val + n) % 1000 := rfl

theorem later_micros : (m.later n).micros = (m.micros + n) % (2 ^ 32 * 1000) := by
  have micro := later_micro_val m n
  have count := later_count_toNat m n
  unfold Moment.micros
  omega

theorem microsUntil_later (short : n < 2 ^ 32 * 1000) : microsUntil m (m.later n) = n := by
  have within : m.micros < 2 ^ 32 * 1000 := by
    have micro := m.micro.isLt
    have count := m.count.isLt
    unfold Moment.micros
    omega
  rw [microsUntil, later_micros]
  omega

end

/-! ### The force condition judged (R141 to R143) -/

section
variable {active latched : SourceSet} {o : Output}

theorem judgeOutput_of_met (met : forceCondition active latched o = true) : judgeOutput active latched o = { o with state := .forced } :=
  if_pos met

theorem judgeOutput_of_released (clear : ¬ forceCondition active latched o = true) (forced : o.state = .forced) :
    judgeOutput active latched o = { o with state := .releasing } := by
  rw [judgeOutput, if_neg clear, forced]

theorem judgeOutput_of_free (clear : ¬ forceCondition active latched o = true) (free : o.state ≠ .forced) :
    judgeOutput active latched o = o := by
  rw [judgeOutput, if_neg clear]
  cases state : o.state with
  | forced => exact absurd state free
  | tracking | releasing => rfl

/-- The condition tests the mask against the set that the restart mode names (Table 8-1). -/
theorem forceCondition_iff : forceCondition active latched o = true ↔
    o.mask &&& (match o.restart with | .auto => active | .manual => latched) ≠ 0 := by
  unfold forceCondition
  cases o.restart <;> exact bne_iff_ne

theorem forceCondition_iff_exists : forceCondition active latched o = true ↔ ∃ src : Source, o.mask.getLsbD src.val = true
    ∧ (match o.restart with | .auto => active | .manual => latched).getLsbD src.val = true :=
  forceCondition_iff.trans (and_ne_zero_iff _ _)

end

/-- Settles O45: each output is judged from the sets, by the three outcomes of the judgement. -/
theorem handOverForcesAndReleases : Obligations.HandOverForcesAndReleases := by
  intro s ix o o' met
  have judged : o' = judgeOutput s.trip.active s.trip.latched o := handOver_output s ix
  have holds : met ↔ forceCondition s.trip.active s.trip.latched o = true := forceCondition_iff_exists.symm
  rw [judged, holds]
  exact ⟨judgeOutput_of_met, judgeOutput_of_released, judgeOutput_of_free, rfl⟩

/-! ### Period ends (R138, R140) -/

section
variable {target : Level} {o : Output}

theorem endPeriod_of_forced (forced : o.state = .forced) : endPeriod target o =
    { o with period := o.staged.getD o.period, staged := none, nextEnd := o.nextEnd.later (periodMicros (o.staged.getD o.period)) } := by
  unfold endPeriod
  rw [forced]

theorem endPeriod_of_free (free : o.state ≠ .forced) : endPeriod target o =
    { o with
      period := o.staged.getD o.period, staged := none, nextEnd := o.nextEnd.later (periodMicros (o.staged.getD o.period))
      applied := target, state := .tracking } := by
  unfold endPeriod
  cases state : o.state with
  | forced => exact absurd state free
  | tracking | releasing => rfl

end

/-- Settles O44: the arithmetic of moments, and the period end of an output by its state. -/
theorem periodEndTakesTarget : Obligations.PeriodEndTakesTarget := by
  refine ⟨fun m n => ⟨later_count_toNat m n, later_micro_val m n, microsUntil_later m n⟩, fun s ix ends => ?_⟩
  intro o period timed
  have row : exec (.periodEnd ix) s = .next (takePeriodEnd s ix) := if_pos ends
  refine ⟨fun forced => ?_, fun free => ?_⟩
  · rw [row, takePeriodEnd, endPeriod_of_forced forced]
    rfl
  · rw [row, takePeriodEnd, endPeriod_of_free free]
    rfl

/-- Settles O46: the time since the start of the period is the length of the period less the time to its end. -/
theorem pulseFollowsAppliedLevel : Obligations.PulseFollowsAppliedLevel := by
  intro now ix o since within before
  have asserted : o.state = .tracking → (pinAsserted now ix o = true ↔ since < assertedMicros ix o) := by
    intro tracking
    have passed : periodMicros o.period - microsUntil now o.nextEnd = since := by
      rw [before, periodMicros]
      omega
    rw [pinAsserted, tracking]
    simp only [passed, decide_eq_true_eq]
  have sixteenth : 16 * o.period.toNat / 16 = o.period.toNat := Nat.mul_div_cancel_left _ (by decide)
  refine ⟨fun tracking other => ?_, fun tracking charge => ?_, fun off => ?_⟩
  · rw [asserted tracking, assertedMicros, if_neg other, sixteenth]
  · rw [asserted tracking, assertedMicros, if_pos charge, sixteenth]
  · unfold pinAsserted
    cases state : o.state with
    | tracking => exact absurd state off
    | forced | releasing => exact beq_iff_eq

/-! ### SET OUTPUT (R145, R146) -/

theorem outputSettingsOf_of_inRange {f : OutputFields} {ix : OutputIx} {cutoff : Cutoff} {restart : Restart} (names : f.output.toNat = ix.val)
    (lasts : f.period ≠ 0) (cuts : f.cutoff = (match cutoff with | .zero => 0 | .full => 1)) (sources : f.mask.toNat < 2048)
    (restarts : f.restart = (match restart with | .auto => 0 | .manual => 1)) :
    outputSettingsOf f = some ⟨ix, f.period, cutoff, f.mask.setWidth 11, restart⟩ := by
  have cutoffRead : cutoffOf f.cutoff = some cutoff := by
    rw [cuts]
    cases cutoff <;> rfl
  have restartRead : restartOf f.restart = some restart := by
    rw [restarts]
    cases restart <;> rfl
  have maskRead : sourceSetOf f.mask = some (f.mask.setWidth 11) := if_pos sources
  simp only [outputSettingsOf, below_eq.mpr names, cutoffRead, maskRead, restartRead, if_pos lasts]

theorem byte_le_one_of_isSome {α : Type} {b : Byte} {x y : α} (reads : (if b = 0 then some x else if b = 1 then some y else none).isSome) :
    b.toNat ≤ 1 := by
  by_cases zero : b = 0
  · rw [zero]; decide
  · by_cases one : b = 1
    · rw [one]; decide
    · rw [if_neg zero, if_neg one] at reads
      cases reads

theorem outputSettingsOf_of_outOfRange {f : OutputFields}
    (out : 3 < f.output.toNat ∨ f.period = 0 ∨ 1 < f.cutoff.toNat ∨ 2048 ≤ f.mask.toNat ∨ 1 < f.restart.toNat) : outputSettingsOf f = none := by
  unfold outputSettingsOf
  split
  · next output cutoff mask restart outputRead cutoffRead maskRead restartRead =>
    have outputOk : f.output.toNat < 4 := by
      rw [below_eq.mp outputRead]
      exact output.isLt
    have cutoffOk : f.cutoff.toNat ≤ 1 := byte_le_one_of_isSome (x := Cutoff.zero) (y := .full) (Option.isSome_of_eq_some cutoffRead)
    have restartOk : f.restart.toNat ≤ 1 := byte_le_one_of_isSome (x := Restart.auto) (y := .manual) (Option.isSome_of_eq_some restartRead)
    have maskOk : f.mask.toNat < 2048 := by
      by_contra wide
      rw [sourceSetOf, if_neg wide] at maskRead
      cases maskRead
    have period : f.period = 0 := by
      rcases out with h | h | h | h | h
      · omega
      · exact h
      all_goals omega
    exact if_neg fun lasts => lasts period
  · rfl

/-- Settles O47: the settings read from the fields, and the output judged with them in force. -/
theorem setOutputActsAtOnce : Obligations.SetOutputActsAtOnce := by
  intro s e f executing command
  have row := exec_setOutput executing f command
  refine ⟨fun ix cutoff restart names lasts cuts sources restarts => ?_, fun out => ?_⟩
  · intro o mask written met becomes
    have read := outputSettingsOf_of_inRange names lasts cuts sources restarts
    have claim : ∀ o', judgeOutput s.trip.active s.trip.latched written = o' → becomes o' := by
      rintro _ rfl
      refine next_of_accept executing row (u := { s with outputs := s.outputs.set ix (judgeOutput s.trip.active s.trip.latched written) }) ?_ rfl
      rw [setOutputClaim, read]
      rfl
    have holds : met ↔ forceCondition s.trip.active s.trip.latched written = true := by
      cases restart <;> exact bne_iff_ne.symm
    rw [holds]
    exact ⟨fun forces => claim _ (judgeOutput_of_met forces), fun clear forced => claim _ (judgeOutput_of_released clear forced),
      fun clear free => claim _ (judgeOutput_of_free clear free)⟩
  · refine answers_of_refuse executing row ?_
    rw [setOutputClaim, outputSettingsOf_of_outOfRange out]

/-! ### RESUME (R159) -/

section
variable {s : State}

theorem resumeClaim_of_active (state : s.trip.state = .tripped ∨ s.trip.state = .stopped) (active : s.trip.latched &&& s.trip.active ≠ 0) :
    resumeClaim s = refuse s .active := by
  rcases state with state | state <;> simp only [resumeClaim, state, if_pos active]

theorem resumeClaim_of_clear (state : s.trip.state = .tripped ∨ s.trip.state = .stopped) (clear : s.trip.latched &&& s.trip.active = 0) :
    resumeClaim s = accept (handOver (s.withTrip { s.trip with state := .armed, latched := 0 })) := by
  rcases state with state | state <;> simp only [resumeClaim, state, if_neg (not_not_intro clear)]

end

/-- Settles O51: the claim of a RESUME by the trip state. -/
theorem resumeReturnsToArmed : Obligations.ResumeReturnsToArmed := by
  intro s e executing command
  have row := exec_resume executing command
  refine ⟨fun armed => ?_, fun stopping => ?_, fun off => ?_, fun state => ⟨fun active => ?_, fun clear => ?_⟩⟩
  · exact next_of_accept executing row (by rw [resumeClaim, armed]) rfl
  · exact answers_of_refuse executing row (by rw [resumeClaim, stopping])
  · exact answers_of_refuse executing row (by rw [resumeClaim, off])
  · exact answers_of_refuse executing row (resumeClaim_of_active state active)
  · exact next_of_accept executing row (resumeClaim_of_clear state clear) rfl

end Sys2Proof.Machine
end

section
/-! SUPPORT. SET GOVERN and SET ROUTE (R131 to R133): what each does to the Governor, by its case, with their statement. -/

namespace Sys2Proof.Machine

/-! ### SET GOVERN (R131, R132) -/

section
variable {f : GovernFields} {g : Governed}

theorem governedBy_of_run_kept (kept : f.saturationTime = g.saturationTime ∨ g.saturationTime = 0) : governedBy f g =
    { g with hysteresis := f.hysteresis, riseHold := f.riseHold, fallHold := f.fallHold, saturationTime := f.saturationTime } := by
  have goesOn : ¬ (f.saturationTime ≠ g.saturationTime ∧ g.saturationTime ≠ 0) := by
    rintro ⟨other, counts⟩
    exact kept.elim other counts
  unfold governedBy
  simp only [if_neg goesOn]

theorem governedBy_of_run_ended (other : f.saturationTime ≠ g.saturationTime) (counts : g.saturationTime ≠ 0) : governedBy f g =
    { g with
      hysteresis := f.hysteresis, riseHold := f.riseHold, fallHold := f.fallHold, saturationTime := f.saturationTime
      runStart := none, saturated := false } := by
  unfold governedBy
  simp only [if_pos (And.intro other counts)]

/-- The state in which a SET GOVERN has written the subject's settings. -/
def governWritten (s : State) (m : Measured) (f : GovernFields) : State :=
  s.withGovernor { s.governor with subjects := s.governor.subjects.set m (governedBy f s.governor.subjects[m]) }

variable (s : State) {m : Measured}

theorem setGovernClaim_of_inRange (names : f.subject.toNat = m.val) (rises : f.riseHold ≠ 0) (falls : f.fallHold ≠ 0) : setGovernClaim f s =
    accept (if (governedBy f s.governor.subjects[m]).saturated ≠ s.governor.subjects[m].saturated then handSaturated (governWritten s m f)
      else governWritten s m f) := by
  have holds : ¬ (f.riseHold = 0 ∨ f.fallHold = 0) := not_or_intro rises falls
  rw [setGovernClaim, below_eq.mpr names]
  exact if_neg holds

theorem setGovernClaim_of_outOfRange (out : 8 < f.subject.toNat ∨ f.riseHold = 0 ∨ f.fallHold = 0) : setGovernClaim f s = refuse s .range := by
  unfold setGovernClaim
  rcases out with subjectOut | holdZero
  · rw [(below_eq_none (b := f.subject)).mpr subjectOut]
  · cases below 9 f.subject with
    | none => rfl
    | some m => exact if_pos holdZero

end

/-! ### SET ROUTE (R133) -/

theorem routeOf_eq_some_iff {entry : Byte} {route : Option Level} : routeOf entry = some route ↔
    (entry = 0xFF ∧ route = none) ∨ ∃ x : Level, entry.toNat = x.val ∧ route = some x := by
  unfold routeOf
  by_cases absent : entry = 0xFF
  · rw [if_pos absent]
    refine ⟨fun h => .inl ⟨absent, (Option.some.inj h).symm⟩, ?_⟩
    rintro (⟨-, rfl⟩ | ⟨x, is, -⟩)
    · rfl
    · rw [absent] at is
      exact absurd is.symm (Nat.ne_of_lt (x.isLt.trans (by decide)))
  · rw [if_neg absent, Option.map_eq_some_iff]
    refine ⟨fun ⟨x, is, same⟩ => .inr ⟨x, below_eq.mp is, same.symm⟩, ?_⟩
    rintro (⟨h, -⟩ | ⟨x, is, same⟩)
    · exact absurd h absent
    · exact ⟨x, below_eq.mpr is, same.symm⟩

theorem routeOf_of_outOfRange {entry : Byte} (wide : 15 < entry.toNat) (present : entry ≠ 0xFF) : routeOf entry = none := by
  rw [routeOf, if_neg present, below_eq_none.mpr wide]
  rfl

section
variable (s : State)

theorem setRouteClaim_of_inRange {subject actuator entry : Byte} {m : Measured} {a : OutputIx} {route : Option Level}
    (names : subject.toNat = m.val) (drives : actuator.toNat = a.val)
    (is : (entry = 0xFF ∧ route = none) ∨ ∃ x : Level, entry.toNat = x.val ∧ route = some x) : setRouteClaim subject actuator entry s =
      accept (recomputeTarget
        (s.withGovernor { s.governor with routes := s.governor.routes.set m (s.governor.routes[m].set a route) }) a) := by
  rw [setRouteClaim, below_eq.mpr names, below_eq.mpr drives, routeOf_eq_some_iff.mpr is]

theorem setRouteClaim_of_outOfRange {subject actuator entry : Byte}
    (out : 8 < subject.toNat ∨ 3 < actuator.toNat ∨ (15 < entry.toNat ∧ entry ≠ 0xFF)) :
    setRouteClaim subject actuator entry s = refuse s .range := by
  unfold setRouteClaim
  rcases out with subjectOut | actuatorOut | ⟨wide, present⟩
  · rw [(below_eq_none (b := subject)).mpr subjectOut]
  · rw [(below_eq_none (b := actuator)).mpr actuatorOut]
    cases below 9 subject <;> rfl
  · rw [routeOf_of_outOfRange wide present]
    cases below 9 subject <;> cases below 4 actuator <;> rfl

end

/-- Settles O43: SET GOVERN by whether it ends the run and whether that clears a flag; SET ROUTE by one equation. -/
theorem governorCommands : Obligations.GovernorCommands := by
  intro s e executing
  refine ⟨fun f m command names rises falls => ?_, fun f command out => ?_, fun subject actuator entry m a route command names drives is => ?_,
    fun subject actuator entry command out => ?_⟩
  · intro g written
    have row := exec_setGovern executing f command
    have claim := setGovernClaim_of_inRange s names rises falls
    refine ⟨fun kept => ?_, fun other counts clear => ?_, fun other counts flagged => ?_⟩
    · have same := governedBy_of_run_kept (f := f) (g := g) kept
      refine next_of_accept executing row (claim.trans (congrArg accept ((if_neg ?_).trans ?_))) rfl
      · rw [same]
        exact fun moved => moved rfl
      · rw [governWritten, same]
        rfl
    · have ended := governedBy_of_run_ended (f := f) (g := g) other counts
      refine next_of_accept executing row (claim.trans (congrArg accept ((if_neg ?_).trans ?_))) rfl
      · rw [ended]
        exact fun moved => moved clear.symm
      · rw [governWritten, ended]
        rfl
    · have ended := governedBy_of_run_ended (f := f) (g := g) other counts
      have handed : governWritten s m f = written { g with runStart := none, saturated := false } := by
        rw [governWritten, ended]
        rfl
      refine next_of_accept executing row (claim.trans (congrArg accept ((if_pos ?_).trans (congrArg handSaturated handed)))) ?_
      · rw [ended, flagged]
        exact nofun
      · rw [handSaturated, judgeSources_link_execution]
        rfl
  · exact answers_of_refuse executing (exec_setGovern executing f command) (setGovernClaim_of_outOfRange s out)
  · exact next_of_accept executing (exec_setRoute executing _ _ _ command) (setRouteClaim_of_inRange s names drives is) rfl
  · exact answers_of_refuse executing (exec_setRoute executing _ _ _ command) (setRouteClaim_of_outOfRange s out)

end Sys2Proof.Machine
end

section
/-! SUPPORT. Moves of the Trip Unit: what one judgement of sources, or several of which none undoes another, does to the sets, the trip state, the
first-trip capture, the notices and the outputs (R141, R152 to R155). -/

namespace Sys2Proof.Machine

/-! ### The move of the trip state (R153, R155) -/

/-- The move of the trip state and the stop timer when these sources are newly latched (R153, R155). -/
structure StateMove (now : Count) (new : SourceSet) (a b : TripUnit) : Prop where
  stays : new = 0 ∨ ¬ IsEarly a.state → b.state = a.state ∧ b.stopTimer = a.stopTimer
  trips : new ≠ 0 → IsEarly a.state → a.stopClass &&& new = 0 → b.state = .tripped ∧ b.stopTimer = a.stopTimer
  stops : IsEarly a.state → a.stopClass &&& new ≠ 0 → a.stopAck = true → b.state = .stopped ∧ b.stopTimer = a.stopTimer
  waits : IsEarly a.state → a.stopClass &&& new ≠ 0 → a.stopAck = false →
    b.state = .stopping ∧ b.stopTimer = some (now + a.stopTimeout.setWidth 32)

theorem not_isEarly_stopped : ¬ IsEarly .stopped := by simp [IsEarly]
theorem not_isEarly_stopping : ¬ IsEarly .stopping := by simp [IsEarly]

section
variable {now : Count} {new : SourceSet} {a b b' : TripUnit}

/-- The move is a function of the state before it and of the sources latched. -/
theorem StateMove.unique (h : StateMove now new a b) (h' : StateMove now new a b') : b'.state = b.state ∧ b'.stopTimer = b.stopTimer := by
  by_cases still : new = 0 ∨ ¬ IsEarly a.state
  · exact ⟨(h'.stays still).1.trans (h.stays still).1.symm, (h'.stays still).2.trans (h.stays still).2.symm⟩
  · obtain ⟨latches, early⟩ := not_or.1 still
    have early := not_not.1 early
    by_cases grave : a.stopClass &&& new = 0
    · have ends := h.trips latches early grave
      have ends' := h'.trips latches early grave
      exact ⟨ends'.1.trans ends.1.symm, ends'.2.trans ends.2.symm⟩
    · cases ack : a.stopAck with
      | true =>
        have ends := h.stops early grave ack
        have ends' := h'.stops early grave ack
        exact ⟨ends'.1.trans ends.1.symm, ends'.2.trans ends.2.symm⟩
      | false =>
        have ends := h.waits early grave ack
        have ends' := h'.waits early grave ack
        exact ⟨ends'.1.trans ends.1.symm, ends'.2.trans ends.2.symm⟩

/-- A move followed by one from where it ended is the move of both sets of sources. -/
theorem StateMove.trans {new' : SourceSet} {c : TripUnit} (h : StateMove now new a b) (h' : StateMove now new' b c)
    (stopClass : b.stopClass = a.stopClass) (stopAck : b.stopAck = a.stopAck) (stopTimeout : b.stopTimeout = a.stopTimeout) :
    StateMove now (new ||| new') a c := by
  have split : a.stopClass &&& (new ||| new') = (a.stopClass &&& new) ||| (a.stopClass &&& new') := BitVec.and_or_distrib_left
  -- The second move from a state still early, its sources read with the settings of the first.
  have second : IsEarly a.state → a.stopClass &&& new = 0 → IsEarly b.state ∧ b.stopTimer = a.stopTimer := by
    intro early harmless
    by_cases none : new = 0
    · obtain ⟨state, timer⟩ := h.stays (.inl none)
      exact ⟨state ▸ early, timer⟩
    · obtain ⟨state, timer⟩ := h.trips none early harmless
      exact ⟨.inr state, timer⟩
  have graveSecond : a.stopClass &&& (new ||| new') ≠ 0 → a.stopClass &&& new = 0 → b.stopClass &&& new' ≠ 0 := by
    intro grave harmless none
    rw [stopClass] at none
    rw [split, harmless, none] at grave
    exact grave rfl
  refine ⟨fun still => ?_, fun latches early harmless => ?_, fun early grave ack => ?_, fun early grave waiting => ?_⟩
  · rcases still with none | late
    · obtain ⟨none, none'⟩ := BitVec.or_eq_zero_iff.1 none
      obtain ⟨state, timer⟩ := h.stays (.inl none)
      obtain ⟨state', timer'⟩ := h'.stays (.inl none')
      exact ⟨state'.trans state, timer'.trans timer⟩
    · obtain ⟨state, timer⟩ := h.stays (.inr late)
      obtain ⟨state', timer'⟩ := h'.stays (.inr (state ▸ late))
      exact ⟨state'.trans state, timer'.trans timer⟩
  · rw [split] at harmless
    obtain ⟨harmless, harmless'⟩ := BitVec.or_eq_zero_iff.1 harmless
    obtain ⟨earlyB, timer⟩ := second early harmless
    by_cases none' : new' = 0
    · have latched : new ≠ 0 := fun none => latches (by rw [none, none']; rfl)
      obtain ⟨state, timer⟩ := h.trips latched early harmless
      obtain ⟨state', timer'⟩ := h'.stays (.inl none')
      exact ⟨state'.trans state, timer'.trans timer⟩
    · obtain ⟨state', timer'⟩ := h'.trips none' earlyB (stopClass ▸ harmless')
      exact ⟨state', timer'.trans timer⟩
  · by_cases harmless : a.stopClass &&& new = 0
    · obtain ⟨earlyB, timer⟩ := second early harmless
      obtain ⟨state', timer'⟩ := h'.stops earlyB (graveSecond grave harmless) (stopAck.trans ack)
      exact ⟨state', timer'.trans timer⟩
    · obtain ⟨state, timer⟩ := h.stops early harmless ack
      obtain ⟨state', timer'⟩ := h'.stays (.inr (state ▸ not_isEarly_stopped))
      exact ⟨state'.trans state, timer'.trans timer⟩
  · by_cases harmless : a.stopClass &&& new = 0
    · obtain ⟨earlyB, -⟩ := second early harmless
      obtain ⟨state', timer'⟩ := h'.waits earlyB (graveSecond grave harmless) (stopAck.trans waiting)
      exact ⟨state', timer'.trans (by rw [stopTimeout])⟩
    · obtain ⟨state, timer⟩ := h.waits early harmless waiting
      obtain ⟨state', timer'⟩ := h'.stays (.inr (state ▸ not_isEarly_stopping))
      exact ⟨state'.trans state, timer'.trans timer⟩

theorem stateMove_of_same (state : b.state = a.state) (timer : b.stopTimer = a.stopTimer) : StateMove now 0 a b :=
  ⟨fun _ => ⟨state, timer⟩, fun latches => absurd rfl latches, fun _ grave => absurd BitVec.and_zero grave,
    fun _ grave => absurd BitVec.and_zero grave⟩

/-- Latching makes the move (R153). -/
theorem stateMove_escalate (latches : new ≠ 0) : StateMove now new a (escalate now (a.stopClass &&& new != 0) a) := by
  refine ⟨fun still => ?_, fun _ early harmless => ?_, fun early grave ack => ?_, fun early grave waiting => ?_⟩
  · rw [escalate_of_late _ (still.resolve_left latches)]
    exact ⟨rfl, rfl⟩
  · rw [escalate_of_early early, if_neg (by simpa using harmless)]
    exact ⟨rfl, rfl⟩
  · rw [escalate_of_early early, if_pos (bne_iff_ne.2 grave), enterStopping_acknowledged ack]
    exact ⟨rfl, rfl⟩
  · rw [escalate_of_early early, if_pos (bne_iff_ne.2 grave), enterStopping_waiting waiting]
    exact ⟨rfl, rfl⟩

theorem stateMove_latch (latches : new ≠ 0) (active : SourceSet) : StateMove now new a (latch now new { a with active := active }) := by
  have moves : StateMove now new { a with
      active := active
      capture := if a.latched = 0 then (firstSource new).map fun src => (now, src) else a.capture
      latched := a.latched ||| new } _ := stateMove_escalate latches
  exact ⟨moves.stays, moves.trips, moves.stops, moves.waits⟩

end

/-! ### The move of the Trip Unit (R152 to R155) -/

/-- The sources latched between two Trip Units. -/
def newlyLatched (a b : TripUnit) : SourceSet := b.latched &&& ~~~a.latched

/-- The Trip Unit moved by judgements of which none undoes another: the sources that rose are latched, the state moves, the capture is taken. -/
structure TripMove (now : Count) (a b : TripUnit) : Prop where
  settings : b = { a with
    state := b.state, active := b.active, latched := b.latched, capture := b.capture, stopTimer := b.stopTimer, saturated := b.saturated }
  latched : b.latched = a.latched ||| (b.active &&& ~~~a.active)
  state : StateMove now (newlyLatched a b) a b
  keeps : newlyLatched a b = 0 ∨ a.latched ≠ 0 → b.capture = a.capture
  takes : newlyLatched a b ≠ 0 → a.latched = 0 → ∃ src : Source, (newlyLatched a b).getLsbD src.val = true ∧ b.capture = some (now, src)

theorem newlyLatched_getLsbD (a b : TripUnit) (src : Source) :
    (newlyLatched a b).getLsbD src.val = (b.latched.getLsbD src.val && !a.latched.getLsbD src.val) := by
  rw [newlyLatched, BitVec.getLsbD_and, BitVec.getLsbD_not, decide_eq_true src.isLt, Bool.true_and]

section
variable {now : Count} {a b c : TripUnit}

theorem TripMove.latched_of_latched (h : TripMove now a b) {src : Source} (was : a.latched.getLsbD src.val = true) :
    b.latched.getLsbD src.val = true := by
  rw [h.latched, BitVec.getLsbD_or, was]
  rfl

/-- The sets of a move are those of its two parts where what the first raised still stands. -/
theorem latched_trans {aA bA cA aL : SourceSet} (within : ∀ src : Source, aA.getLsbD src.val = true → aL.getLsbD src.val = true)
    (held : ∀ src : Source, bA.getLsbD src.val = true → aA.getLsbD src.val = false → cA.getLsbD src.val = true) :
    aL ||| (bA &&& ~~~aA) ||| (cA &&& ~~~bA) = aL ||| (cA &&& ~~~aA) := by
  refine sourceSet_ext fun src => ?_
  have within := within src
  have held := held src
  simp only [BitVec.getLsbD_or, BitVec.getLsbD_and, BitVec.getLsbD_not, src.isLt, decide_true, Bool.true_and]
  revert within held
  cases aA.getLsbD src.val <;> cases bA.getLsbD src.val <;> cases cA.getLsbD src.val <;> cases aL.getLsbD src.val <;> decide

theorem newlyLatched_trans (ab : ∀ src : Source, a.latched.getLsbD src.val = true → b.latched.getLsbD src.val = true)
    (bc : ∀ src : Source, b.latched.getLsbD src.val = true → c.latched.getLsbD src.val = true) :
    newlyLatched a c = newlyLatched a b ||| newlyLatched b c := by
  refine sourceSet_ext fun src => ?_
  have ab := ab src
  have bc := bc src
  simp only [BitVec.getLsbD_or, newlyLatched_getLsbD]
  revert ab bc
  cases a.latched.getLsbD src.val <;> cases b.latched.getLsbD src.val <;> cases c.latched.getLsbD src.val <;> decide

theorem newlyLatched_of_latched_eq (same : b.latched = a.latched) : newlyLatched a b = 0 := by
  rw [newlyLatched, same]
  simp

theorem latched_of_newlyLatched_eq_zero (h : TripMove now a b) (none : newlyLatched a b = 0) : b.latched = a.latched := by
  refine sourceSet_ext fun src => ?_
  have bit : (newlyLatched a b).getLsbD src.val = false := by rw [none]; simp
  have kept := h.latched_of_latched (src := src)
  rw [newlyLatched_getLsbD] at bit
  revert bit kept
  cases a.latched.getLsbD src.val <;> cases b.latched.getLsbD src.val <;> simp

theorem latched_ne_zero_of_newlyLatched (latches : newlyLatched a b ≠ 0) : b.latched ≠ 0 := fun zero =>
  latches (by rw [newlyLatched, zero]; simp)

theorem TripMove.stopClass (h : TripMove now a b) : b.stopClass = a.stopClass := by rw [h.settings]
theorem TripMove.stopAck (h : TripMove now a b) : b.stopAck = a.stopAck := by rw [h.settings]
theorem TripMove.stopTimeout (h : TripMove now a b) : b.stopTimeout = a.stopTimeout := by rw [h.settings]
theorem TripMove.enable (h : TripMove now a b) : b.enable = a.enable := by rw [h.settings]
theorem TripMove.levels (h : TripMove now a b) : b.levels = a.levels := by rw [h.settings]
theorem TripMove.overtemp (h : TripMove now a b) : b.overtemp = a.overtemp := by rw [h.settings]

/-- Two moves make one, where every source active was latched and what the first raised the second does not let fall. -/
theorem TripMove.trans (h : TripMove now a b) (h' : TripMove now b c)
    (within : ∀ src : Source, a.active.getLsbD src.val = true → a.latched.getLsbD src.val = true)
    (held : ∀ src : Source, b.active.getLsbD src.val = true → a.active.getLsbD src.val = false → c.active.getLsbD src.val = true) :
    TripMove now a c := by
  have union : newlyLatched a c = newlyLatched a b ||| newlyLatched b c :=
    newlyLatched_trans (fun _ => h.latched_of_latched) fun _ => h'.latched_of_latched
  refine ⟨?_, ?_, ?_, fun still => ?_, fun latches unlatched => ?_⟩
  · conv_lhs => rw [h'.settings, h.settings]
  · rw [h'.latched, h.latched]
    exact latched_trans within held
  · rw [union]
    exact h.state.trans h'.state h.stopClass h.stopAck h.stopTimeout
  · rw [union] at still
    rcases still with none | some
    · obtain ⟨none, none'⟩ := BitVec.or_eq_zero_iff.1 none
      exact (h'.keeps (.inl none')).trans (h.keeps (.inl none))
    · have latched : b.latched ≠ 0 := fun zero => some (BitVec.or_eq_zero_iff.1 (h.latched ▸ zero)).1
      exact (h'.keeps (.inr latched)).trans (h.keeps (.inr some))
  · by_cases none : newlyLatched a b = 0
    · have same := latched_of_newlyLatched_eq_zero h none
      have second : newlyLatched a c = newlyLatched b c := union.trans (by rw [none]; exact BitVec.zero_or)
      rw [second] at latches ⊢
      exact h'.takes latches (same.trans unlatched)
    · obtain ⟨src, mem, taken⟩ := h.takes none unlatched
      refine ⟨src, ?_, (h'.keeps (.inr (latched_ne_zero_of_newlyLatched none))).trans taken⟩
      rw [union, BitVec.getLsbD_or, mem]
      rfl

/-- The saturated set written is a move in which nothing is latched. -/
theorem tripMove_saturated (now : Count) (a : TripUnit) (x : BitVec 9) : TripMove now a { a with saturated := x } := by
  have none : newlyLatched a { a with saturated := x } = 0 := newlyLatched_of_latched_eq rfl
  refine ⟨rfl, ?_, ?_, fun _ => rfl, fun latches => absurd none latches⟩
  · show a.latched = a.latched ||| (a.active &&& ~~~a.active)
    simp
  · rw [none]
    exact stateMove_of_same rfl rfl

theorem TripMove.refl (now : Count) (a : TripUnit) : TripMove now a a := tripMove_saturated now a a.saturated

/-- But for the capture a move is a function of the active and the saturated set it ends with. -/
theorem TripMove.unique {b' : TripUnit} (h : TripMove now a b) (h' : TripMove now a b') (active : b'.active = b.active)
    (saturated : b'.saturated = b.saturated) : b' = { b with capture := b'.capture } := by
  have latched : b'.latched = b.latched := by rw [h'.latched, h.latched, active]
  have new : newlyLatched a b' = newlyLatched a b := by rw [newlyLatched, latched]; rfl
  have moved' := h'.state
  rw [new] at moved'
  obtain ⟨state, timer⟩ := h.state.unique moved'
  conv_lhs => rw [h'.settings, active, saturated, latched, state, timer]
  conv_rhs => rw [h.settings]

end

/-! ### One judgement of sources -/

section
variable (s : State) (which : SourceSet)

/-- The sources that a judgement latches. -/
theorem newlyLatched_judgeSources : newlyLatched s.trip (judgeSources s which).trip = judgedActive s which &&& ~~~s.trip.active &&& ~~~s.trip.latched := by
  refine sourceSet_ext fun src => ?_
  rw [newlyLatched, judgeSources_latched]
  simp only [BitVec.getLsbD_or, BitVec.getLsbD_and, BitVec.getLsbD_not, src.isLt, decide_true, Bool.true_and]
  cases s.trip.latched.getLsbD src.val <;> simp

theorem judgeSources_of_latching (latches : newlyLatched s.trip (judgeSources s which).trip ≠ 0) : judgeSources s which =
    postAll (handOver (s.withTrip (latch s.timebase.count (newlyLatched s.trip (judgeSources s which).trip)
      { s.trip with active := judgedActive s which }))) .trip := by
  rw [newlyLatched_judgeSources] at latches ⊢
  exact (judgeSources_cases s which).1 latches

theorem judgeSources_of_not_latching (none : newlyLatched s.trip (judgeSources s which).trip = 0) :
    judgeSources s which = handOver (s.withTrip { s.trip with active := judgedActive s which })
    ∨ (judgedActive s which = s.trip.active ∧ judgeSources s which = s) := by
  rw [newlyLatched_judgeSources] at none
  obtain ⟨-, changes, stays⟩ := judgeSources_cases s which
  by_cases same : judgedActive s which = s.trip.active
  · exact .inr ⟨same, stays none same⟩
  · exact .inl (changes none same)

/-- From an empty latched set the first of the sources that rose is captured (R152, R162). -/
theorem judgeSources_capture_first (latches : newlyLatched s.trip (judgeSources s which).trip ≠ 0) (unlatched : s.trip.latched = 0) :
    ∃ src, firstSource (newlyLatched s.trip (judgeSources s which).trip) = some src
      ∧ (judgeSources s which).trip.capture = some (s.timebase.count, src) := by
  obtain ⟨src, first⟩ := Option.isSome_iff_exists.1 (firstSource_isSome.2 latches)
  refine ⟨src, first, ?_⟩
  have taken : (judgeSources s which).trip = _ := congrArg State.trip (judgeSources_of_latching s which latches)
  rw [taken, postAll_trip, handOver_trip, State.withTrip_trip, latch_eq, first]
  exact if_pos unlatched

theorem tripMove_judgeSources : TripMove s.timebase.count s.trip (judgeSources s which).trip := by
  have settings := judgeSources_settings s which
  refine ⟨?_, ?_, ?_, fun still => ?_, fun latches unlatched => ?_⟩
  · obtain ⟨overtemp, stopAck, -, enable, stopClass, levels, stopTimeout⟩ := settings
    rw [← overtemp, ← stopAck, ← enable, ← stopClass, ← levels, ← stopTimeout]
  · rw [judgeSources_active]
    exact judgeSources_latched s which
  · by_cases none : newlyLatched s.trip (judgeSources s which).trip = 0
    · rw [none]
      rcases judgeSources_of_not_latching s which none with ends | ⟨-, ends⟩ <;> rw [ends] <;> exact stateMove_of_same rfl rfl
    · have ends := judgeSources_of_latching s which none
      generalize newlyLatched s.trip (judgeSources s which).trip = new at none ends ⊢
      rw [ends]
      exact stateMove_latch none _
  · by_cases none : newlyLatched s.trip (judgeSources s which).trip = 0
    · rcases judgeSources_of_not_latching s which none with ends | ⟨-, ends⟩ <;> exact (congrArg (·.trip.capture) ends).trans rfl
    · have some := still.resolve_left none
      have ends : (judgeSources s which).trip = _ := congrArg State.trip (judgeSources_of_latching s which none)
      rw [ends, postAll_trip, handOver_trip, State.withTrip_trip, latch_eq]
      exact if_neg some
  · obtain ⟨src, first, taken⟩ := judgeSources_capture_first s which latches unlatched
    exact ⟨src, firstSource_mem first, taken⟩

/-- A judgement writes the Trip Unit, the outputs' states and the notice states. -/
theorem judgeSources_eq : ∃ trip outputs notices,
    judgeSources s which = { s with trip, outputs, link := { s.link with notices } } := by
  by_cases none : newlyLatched s.trip (judgeSources s which).trip = 0
  · rcases judgeSources_of_not_latching s which none with ends | ⟨-, ends⟩ <;> rw [ends] <;> exact ⟨_, _, s.link.notices, rfl⟩
  · exact ⟨_, _, _, judgeSources_of_latching s which none⟩

theorem judgeSources_link_of_not_latching (none : newlyLatched s.trip (judgeSources s which).trip = 0) :
    (judgeSources s which).link = s.link := by
  rcases judgeSources_of_not_latching s which none with ends | ⟨-, ends⟩ <;> exact (congrArg State.link ends).trans rfl

theorem judgeSources_notices_of_latching (latches : newlyLatched s.trip (judgeSources s which).trip ≠ 0) (r : Requester) :
    (judgeSources s which).link.notices[r] = s.link.notices[r].take .trip := by
  rw [judgeSources_of_latching s which latches, postAll_notices]
  rfl

theorem judgeSources_of_active_same (same : (judgeSources s which).trip.active = s.trip.active) : judgeSources s which = s := by
  rw [judgeSources_active] at same
  refine (judgeSources_cases s which).2.2 ?_ same
  rw [same]
  simp

theorem judgeSources_output_of_active_ne (moves : (judgeSources s which).trip.active ≠ s.trip.active) (ix : OutputIx) :
    (judgeSources s which).outputs[ix] =
      judgeOutput (judgeSources s which).trip.active (judgeSources s which).trip.latched s.outputs[ix] := by
  by_cases none : newlyLatched s.trip (judgeSources s which).trip = 0
  · rcases judgeSources_of_not_latching s which none with ends | ⟨-, ends⟩
    · rw [ends, handOver_output]
      rfl
    · exact absurd (congrArg (·.trip.active) ends) moves
  · rw [judgeSources_of_latching s which none, postAll_outputs, handOver_output]
    rfl

end

end Sys2Proof.Machine
end

section
/-! SUPPORT. SET TRIP (R161, R162): its packed payload read, and every source judged under the settings written, with its statement. -/

namespace Sys2Proof.Machine

/-! ### The packed payload (Table 10-3) -/

section
variable {w : BitVec 128}

/-- Bit i of the table is bit 127 - i of the packed payload. -/
theorem packed_getMsbD {i : Nat} (within : i < 128) : w.getMsbD i = w.getLsbD (127 - i) := by
  simp [BitVec.getMsbD, within]

/-- The reserved bits of the table are two bits below the stop-class set and the last six (Table 10-3). -/
theorem reserved_iff : ((List.range 128).any fun i => (i == 22 || i == 23 || decide (122 ≤ i)) && w.getMsbD i) = false
    ↔ w.extractLsb' 104 2 = 0 ∧ w.extractLsb' 0 6 = 0 := by
  simp only [List.any_eq_false, List.mem_range, Bool.and_eq_true, Bool.or_eq_true, beq_iff_eq, decide_eq_true_eq, not_and, Bool.not_eq_true]
  constructor
  · intro clear
    have bit : ∀ i, i < 128 → (i = 22 ∨ i = 23) ∨ 122 ≤ i → w.getLsbD (127 - i) = false := fun i within named => by
      rw [← packed_getMsbD within]
      exact clear i within named
    constructor
    · refine BitVec.eq_of_getLsbD_eq fun i small => ?_
      rw [BitVec.getLsbD_extractLsb']
      have here := bit (127 - (104 + i)) (by omega) (by omega)
      rw [show 127 - (127 - (104 + i)) = 104 + i by omega] at here
      simp [here]
    · refine BitVec.eq_of_getLsbD_eq fun i small => ?_
      rw [BitVec.getLsbD_extractLsb']
      have here := bit (127 - i) (by omega) (by omega)
      rw [show 127 - (127 - i) = i by omega] at here
      simp [here]
  · rintro ⟨two, six⟩ i within named
    rw [packed_getMsbD within]
    rcases named with (rfl | rfl) | last
    · simpa using congrArg (·.getLsbD 1) two
    · simpa using congrArg (·.getLsbD 0) two
    · have small : 127 - i < 6 := by omega
      simpa [small] using congrArg (·.getLsbD (127 - i)) six

/-- The settings that an acceptable payload names. -/
def namedSettings (w : BitVec 128) : TripSettings where
  enable := bitsWhere fun i : Fin 11 => w.getMsbD i.val
  stopClass := bitsWhere fun i : Fin 11 => w.getMsbD (11 + i.val)
  levels := Vector.ofFn fun c : Fin 9 => w.extractLsb' (86 - 10 * c.val) 10
  stopTimeout := w.extractLsb' 96 8

theorem tripSettingsOf_of_accepted (clear : w.extractLsb' 104 2 = 0 ∧ w.extractLsb' 0 6 = 0) (runs : w.extractLsb' 96 8 ≠ 0) :
    tripSettingsOf w = some (namedSettings w) := if_pos ⟨clear.1, clear.2, runs⟩

theorem tripSettingsOf_of_refused (out : ¬ (w.extractLsb' 104 2 = 0 ∧ w.extractLsb' 0 6 = 0) ∨ w.extractLsb' 96 8 = 0) :
    tripSettingsOf w = none := by
  refine if_neg fun ⟨two, six, runs⟩ => ?_
  exact out.elim (fun set => set ⟨two, six⟩) runs

theorem namedSettings_enable (src : Source) : (namedSettings w).enable.getLsbD src.val = w.getMsbD src.val := bitsWhere_getLsbD _ src

theorem namedSettings_stopClass (src : Source) : (namedSettings w).stopClass.getLsbD src.val = w.getMsbD (11 + src.val) := bitsWhere_getLsbD _ src

theorem namedSettings_levels (c : Channel) (k : Fin 10) : (namedSettings w).levels[c].getMsbD k.val = w.getMsbD (32 + 10 * c.val + k.val) := by
  have kBound := k.isLt
  have cBound := c.isLt
  have level : (namedSettings w).levels[c] = w.extractLsb' (86 - 10 * c.val) 10 := by simp [namedSettings]
  rw [level, packed_getMsbD (by omega), BitVec.getMsbD, decide_eq_true kBound, Bool.true_and, BitVec.getLsbD_extractLsb',
    decide_eq_true (by omega : 10 - 1 - k.val < 10), Bool.true_and]
  congr 1
  omega

end

/-! ### The claim (R161, R162) -/

/-- The state with these settings of the Trip Unit. -/
def withSettings (s : State) (x : TripSettings) : State :=
  s.withTrip { s.trip with enable := x.enable, stopClass := x.stopClass, levels := x.levels, stopTimeout := x.stopTimeout }

theorem setTripClaim_of_some {s : State} {w : BitVec 128} {x : TripSettings} (read : tripSettingsOf w = some x) :
    setTripClaim w s = accept (judgeSources (withSettings s x) (BitVec.allOnes 11)) := by
  rw [setTripClaim, read]
  rfl

/-- Every source judged leaves the judged set. -/
theorem judgedActive_all (s : State) : judgedActive s (BitVec.allOnes 11) = judgedSet s.trip s.measure.latest := by
  refine sourceSet_ext fun src => ?_
  rw [judgedActive_getLsbD, BitVec.getLsbD_allOnes, decide_eq_true src.isLt]
  exact if_pos rfl

/-- Settles O52: the payload's bits by the table; the judgement of every source is one move of the Trip Unit with the settings written. -/
theorem setTripJudgesAllSources : Obligations.SetTripJudgesAllSources := by
  intro s e w executing command
  have row := exec_setTrip executing w command
  have clear := reserved_iff (w := w)
  intro reserved timeout
  refine ⟨fun out => ?_, fun none runs => ?_⟩
  · refine answers_of_refuse executing row ?_
    have refused : tripSettingsOf w = none := by
      refine tripSettingsOf_of_refused (out.imp_left fun some free => ?_)
      exact Bool.false_ne_true ((clear.2 free).symm.trans some)
    rw [setTripClaim, refused]
  have claim := setTripClaim_of_some (s := s) (tripSettingsOf_of_accepted (clear.1 none) runs)
  have move := tripMove_judgeSources (withSettings s (namedSettings w)) (BitVec.allOnes 11)
  have active := judgeSources_active (withSettings s (namedSettings w)) (BitVec.allOnes 11)
  have judged := judgedSet_judgeSources (withSettings s (namedSettings w)) (BitVec.allOnes 11)
  have link := judgeSources_link_of_not_latching (withSettings s (namedSettings w)) (BitVec.allOnes 11)
  have notices := judgeSources_notices_of_latching (withSettings s (namedSettings w)) (BitVec.allOnes 11)
  have first := judgeSources_capture_first (withSettings s (namedSettings w)) (BitVec.allOnes 11)
  have still := judgeSources_of_active_same (withSettings s (namedSettings w)) (BitVec.allOnes 11)
  have outputs := judgeSources_output_of_active_ne (withSettings s (namedSettings w)) (BitVec.allOnes 11)
  obtain ⟨trip, newOutputs, newNotices, written⟩ := judgeSources_eq (withSettings s (namedSettings w)) (BitVec.allOnes 11)
  have measure := judgeSources_measure (withSettings s (namedSettings w)) (BitVec.allOnes 11)
  have execution := judgeSources_link_execution (withSettings s (namedSettings w)) (BitVec.allOnes 11)
  obtain ⟨overtemp, stopAck, saturated, enable, stopClass, levels, stopTimeout⟩ :=
    judgeSources_settings (withSettings s (namedSettings w)) (BitVec.allOnes 11)
  refine ⟨_, next_of_accept executing row claim execution, ?_⟩
  generalize judgeSources (withSettings s (namedSettings w)) (BitVec.allOnes 11) = u at *
  refine ⟨fun src => ⟨?_, ?_⟩, fun c k => ?_, stopTimeout, ?_, move.latched, overtemp, stopAck, saturated, ?_, fun same => ?_, outputs, ?_⟩
  · rw [enable]; exact namedSettings_enable src
  · rw [stopClass]; exact namedSettings_stopClass src
  · rw [levels]; exact namedSettings_levels c k
  · rw [active, judgedActive_all, ← judged, measure]
    rfl
  · intro new early stays
    rw [move.stopClass]
    obtain ⟨stay, trips, stops, waits⟩ := move.state
    refine ⟨stay, trips, stops, waits, link, notices, move.keeps, fun latches unlatched => ?_⟩
    obtain ⟨src, lowest, taken⟩ := first latches unlatched
    exact ⟨src, taken, firstSource_mem lowest, fun other => firstSource_lowest lowest⟩
  · exact (congrArg State.outputs (still same)).trans rfl
  · rw [written]
    rfl

end Sys2Proof.Machine
end

section
/-! SUPPORT. The filter updates and evaluations of a completion (R101, R108 to R110, R122 to R124): what each writes, that they read the Measurement Unit
and the Governor alone, and that those of CH0 leave the same in either order; with the statement of a completion's measures. -/

namespace Sys2Proof.Machine

/-! ### One update and its evaluation -/

/-- A measured subject of the Governor after an evaluation at a value (R123, R126). -/
def evaluated (s : State) (m : Measured) (v : Nat) : Governed :=
  judgeRun s.timebase.count s.resolver[m.castSucc].limit v
    (stepPressure s.timebase.count s.resolver[m.castSucc].limit v s.governor.subjects[m])

/-- A filter after the update from a code (R109). -/
def filterAfter (s : State) (code : BitVec 10) (m : Measured) : Nat :=
  updatedFilter s.measure.filters[m] (sampleOf code s.measure.gains[m]) s.measure.shifts[m]

theorem governor_ext {g g' : Governor} (subjects : g.subjects = g'.subjects) (routes : g.routes = g'.routes)
    (targets : ∀ a : OutputIx, g.targets[a] = g'.targets[a]) : g = g' := by
  have same : g.targets = g'.targets := Vector.ext fun i hi => targets ⟨i, hi⟩
  cases g
  cases g'
  cases subjects
  cases routes
  cases same
  rfl

section
variable (s : State)

theorem filterUpdate_measure (code : BitVec 10) (m : Measured) : (filterUpdate s code m).measure =
    { s.measure with filters := s.measure.filters.set m (some (filterAfter s code m)) } := evaluate_measure _ _ _

theorem filterUpdate_subjects (code : BitVec 10) (m : Measured) : (filterUpdate s code m).governor.subjects =
    s.governor.subjects.set m (evaluated s m (reported (filterAfter s code m))) := evaluate_subjects _ _ _

theorem recomputeTargets_target (l : List OutputIx) (a : OutputIx) : (l.foldl recomputeTarget s).governor.targets[a] =
    if a ∈ l then targetLevel s.governor s.fanCap a else s.governor.targets[a] := by
  induction l generalizing s with
  | nil => simp
  | cons b l ih =>
    have level : targetLevel (recomputeTarget s b).governor (recomputeTarget s b).fanCap a = targetLevel s.governor s.fanCap a := rfl
    rw [List.foldl_cons, ih, level, recomputeTarget_targets]
    by_cases here : a = b
    · simp [here]
    · simp [here, Fin.val_ne_of_ne (Ne.symm here)]

/-- An evaluation before the hand-over of a changed flag: the subject is written, and a step recomputes the targets of its routes (R124). -/
def stepped (m : Measured) (v : Nat) : State :=
  if (evaluated s m v).pressure ≠ s.governor.subjects[m].pressure then
    (routed s.governor m).foldl recomputeTarget (s.withGovernor { s.governor with subjects := s.governor.subjects.set m (evaluated s m v) })
  else s.withGovernor { s.governor with subjects := s.governor.subjects.set m (evaluated s m v) }

theorem evaluate_eq_stepped (m : Measured) (v : Nat) : evaluate s m v =
    if (evaluated s m v).saturated ≠ s.governor.subjects[m].saturated then handSaturated (stepped s m v) else stepped s m v := rfl

theorem evaluate_governor (m : Measured) (v : Nat) : (evaluate s m v).governor = (stepped s m v).governor := by
  rw [evaluate_eq_stepped]
  split
  · exact handSaturated_governor _
  · rfl

/-- An evaluation that steps the pressure recomputes the targets of the subject's routes, and no other (R124). -/
theorem evaluate_target (m : Measured) (v : Nat) (a : OutputIx) : (evaluate s m v).governor.targets[a] =
    if (evaluated s m v).pressure ≠ s.governor.subjects[m].pressure ∧ a ∈ routed s.governor m then
      targetLevel { s.governor with subjects := s.governor.subjects.set m (evaluated s m v) } s.fanCap a
    else s.governor.targets[a] := by
  rw [evaluate_governor, stepped]
  by_cases steps : (evaluated s m v).pressure ≠ s.governor.subjects[m].pressure
  · rw [if_pos steps, recomputeTargets_target]
    simp only [steps, ne_eq, not_false_eq_true, true_and]
    rfl
  · rw [if_neg steps, if_neg fun both => steps both.1]
    rfl

end

/-! ### What an update reads -/

/-- Two states alike in all that an update reads and writes but for the trip sources. -/
structure MeasuresAlike (s t : State) : Prop where
  timebase : t.timebase = s.timebase
  resolver : t.resolver = s.resolver
  measure : t.measure = s.measure
  governor : t.governor = s.governor

section
variable {s t u : State}

theorem MeasuresAlike.refl (s : State) : MeasuresAlike s s := ⟨rfl, rfl, rfl, rfl⟩

theorem MeasuresAlike.trans (h : MeasuresAlike s t) (h' : MeasuresAlike t u) : MeasuresAlike s u :=
  ⟨h'.timebase.trans h.timebase, h'.resolver.trans h.resolver, h'.measure.trans h.measure, h'.governor.trans h.governor⟩

theorem MeasuresAlike.symm (h : MeasuresAlike s t) : MeasuresAlike t s :=
  ⟨h.timebase.symm, h.resolver.symm, h.measure.symm, h.governor.symm⟩

theorem MeasuresAlike.evaluated (h : MeasuresAlike s t) (m : Measured) (v : Nat) : evaluated t m v = evaluated s m v := by
  unfold Machine.evaluated
  rw [h.timebase, h.resolver, h.governor]

theorem MeasuresAlike.filterAfter (h : MeasuresAlike s t) (code : BitVec 10) (m : Measured) : filterAfter t code m = filterAfter s code m := by
  unfold Machine.filterAfter
  rw [h.measure]

theorem MeasuresAlike.filterUpdate (h : MeasuresAlike s t) (code : BitVec 10) (m : Measured) :
    MeasuresAlike (filterUpdate s code m) (filterUpdate t code m) := by
  have cap : t.fanCap = s.fanCap := fanCap_congr h.resolver
  have value := h.filterAfter code m
  have subject := h.evaluated m (reported (Machine.filterAfter s code m))
  refine ⟨by simp [h.timebase], by simp [h.resolver], ?_, governor_ext ?_ (by simp [h.governor]) fun a => ?_⟩
  · rw [filterUpdate_measure, filterUpdate_measure, value, h.measure]
  · rw [filterUpdate_subjects, filterUpdate_subjects, value, subject, h.governor]
  · have targets := fun x : State => evaluate_target (x.withMeasure { x.measure with
      filters := x.measure.filters.set m (some (Machine.filterAfter x code m)) }) m (reported (Machine.filterAfter x code m)) a
    refine (targets t).trans (Eq.trans ?_ (targets s).symm)
    show (if (Machine.evaluated t m (reported (Machine.filterAfter t code m))).pressure ≠ t.governor.subjects[m].pressure ∧ a ∈ routed t.governor m
      then targetLevel { t.governor with subjects := t.governor.subjects.set m (Machine.evaluated t m (reported (Machine.filterAfter t code m))) }
        t.fanCap a else t.governor.targets[a]) = _
    rw [value, subject, h.governor, cap]
    rfl

theorem MeasuresAlike.filterUpdates (h : MeasuresAlike s t) (code : BitVec 10) (l : List Measured) :
    MeasuresAlike (l.foldl (fun s m => Machine.filterUpdate s code m) s) (l.foldl (fun s m => Machine.filterUpdate s code m) t) := by
  induction l generalizing s t with
  | nil => exact h
  | cons m l ih => exact ih (h.filterUpdate code m)

theorem measuresAlike_judgeSources (s : State) (which : SourceSet) : MeasuresAlike s (judgeSources s which) :=
  ⟨by simp, by simp, by simp, by simp⟩

theorem measuresAlike_takePeriodEnd (s : State) (ix : OutputIx) : MeasuresAlike s (takePeriodEnd s ix) := ⟨rfl, rfl, rfl, rfl⟩

theorem measuresAlike_readGovernor (s : State) : MeasuresAlike s (respond (readGovernorClaim s)) := ⟨by simp, by simp, by simp, by simp⟩

end

/-! ### The two updates of CH0 in either order (R125) -/

/-- The Governor with a subject written. -/
def withSubject (g : Governor) (m : Measured) (x : Governed) : Governor := { g with subjects := g.subjects.set m x }

/-- A subject written with another pressure reaches the actuators to which it has a route (R124, R129). -/
abbrev Reaches (g : Governor) (m : Measured) (x : Governed) (a : OutputIx) : Prop :=
  x.pressure ≠ g.subjects[m].pressure ∧ a ∈ routed g m

theorem targetLevel_of_unreached {g : Governor} {m : Measured} {x : Governed} {a : OutputIx} (unreached : ¬ Reaches g m x a) (cap : Level) :
    targetLevel (withSubject g m x) cap a = targetLevel g cap a := by
  by_cases same : x.pressure = g.subjects[m].pressure
  · exact targetLevel_congr (contribution_of_pressure same a) cap
  · exact targetLevel_congr (contribution_of_no_route fun route => unreached ⟨same, route⟩) cap

/-- The target level reads the subjects and the routes. -/
theorem targetLevel_withSubject {g g' : Governor} (subjects : g'.subjects = g.subjects) (routes : g'.routes = g.routes) (m : Measured)
    (x : Governed) (cap : Level) (a : OutputIx) : targetLevel (withSubject g' m x) cap a = targetLevel (withSubject g m x) cap a := by
  rw [governor_of_fields subjects routes]
  rfl

/-- Whether a subject reaches an actuator is not changed by another subject written. -/
theorem reaches_of_other {g g' : Governor} {m m' : Measured} {x : Governed} (subjects : g'.subjects = g.subjects.set m x)
    (routes : g'.routes = g.routes) (other : m ≠ m') (x' : Governed) (a : OutputIx) : Reaches g' m' x' a ↔ Reaches g m' x' a := by
  have before : g'.subjects[m'] = g.subjects[m'] := by
    rw [subjects]
    exact Vector.getElem_set_ne _ _ (Fin.val_ne_of_ne other)
  have same : routed g' m' = routed g m' := by
    unfold routed
    rw [routes]
  unfold Reaches
  rw [before, same]

/-- The Governor, the resolver, the Timebase and the rest of the measurement stay as they are for the update of another subject. -/
theorem filterUpdate_other (s : State) (code : BitVec 10) {m m' : Measured} (other : m ≠ m') :
    filterAfter (filterUpdate s code m) code m' = filterAfter s code m'
    ∧ ∀ v, evaluated (filterUpdate s code m) m' v = evaluated s m' v := by
  have apart := Fin.val_ne_of_ne other
  refine ⟨?_, fun v => ?_⟩
  · simp only [filterAfter, filterUpdate_measure, Fin.getElem_fin, Vector.getElem_set_ne _ _ apart]
  · simp only [evaluated, filterUpdate_subjects, filterUpdate_timebase, filterUpdate_resolver, Fin.getElem_fin, Vector.getElem_set_ne _ _ apart]

section
variable (s : State) (code : BitVec 10)

/-- A measured subject of the Governor after an update from a code (R109, R110). -/
def subjectAfter (m : Measured) : Governed := evaluated s m (reported (filterAfter s code m))

theorem subjectAfter_other {m m' : Measured} (other : m ≠ m') : subjectAfter (filterUpdate s code m) code m' = subjectAfter s code m' := by
  obtain ⟨filter, subject⟩ := filterUpdate_other s code other
  rw [subjectAfter, filter, subject]
  rfl

theorem filterUpdate_subjects_set (m : Measured) : (filterUpdate s code m).governor.subjects =
    s.governor.subjects.set m (subjectAfter s code m) := filterUpdate_subjects s code m

theorem filterUpdate_target (m : Measured) (a : OutputIx) : (filterUpdate s code m).governor.targets[a] =
    if Reaches s.governor m (subjectAfter s code m) a then targetLevel (withSubject s.governor m (subjectAfter s code m)) s.fanCap a
    else s.governor.targets[a] := evaluate_target _ m _ a

/-- A target after two updates: what the two subjects written give, if either reaches it. -/
theorem filterUpdates_target {m m' : Measured} (other : m ≠ m') (a : OutputIx) :
    (filterUpdate (filterUpdate s code m) code m').governor.targets[a] =
      if Reaches s.governor m (subjectAfter s code m) a ∨ Reaches s.governor m' (subjectAfter s code m') a then
        targetLevel (withSubject (withSubject s.governor m (subjectAfter s code m)) m' (subjectAfter s code m')) s.fanCap a
      else s.governor.targets[a] := by
  have subjects := filterUpdate_subjects_set s code m
  have routes := filterUpdate_governor_routes s code m
  have cap : (filterUpdate s code m).fanCap = s.fanCap := fanCap_congr (filterUpdate_resolver s code m)
  have first := filterUpdate_target s code m a
  have second := filterUpdate_target (filterUpdate s code m) code m' a
  rw [subjectAfter_other s code other, cap, first] at second
  rw [second]
  generalize (filterUpdate s code m).governor = g at subjects routes ⊢
  generalize subjectAfter s code m = x at subjects ⊢
  generalize subjectAfter s code m' = x'
  have level := targetLevel_withSubject (g := withSubject s.governor m x) subjects routes m' x' s.fanCap a
  have unreached : ¬ Reaches s.governor m' x' a →
      targetLevel (withSubject (withSubject s.governor m x) m' x') s.fanCap a = targetLevel (withSubject s.governor m x) s.fanCap a :=
    fun none => targetLevel_of_unreached (mt (reaches_of_other (g' := withSubject s.governor m x) rfl rfl other x' a).1 none) _
  simp only [reaches_of_other subjects routes other x' a, level]
  by_cases reaches' : Reaches s.governor m' x' a
  · rw [if_pos reaches', if_pos (.inr reaches')]
  · rw [if_neg reaches']
    by_cases reaches : Reaches s.governor m x a
    · rw [if_pos reaches, if_pos (.inl reaches), unreached reaches']
    · rw [if_neg reaches, if_neg (not_or_intro reaches reaches')]

/-- The updates of two subjects leave the same in either order. -/
theorem filterUpdate_comm {m m' : Measured} (other : m ≠ m') :
    MeasuresAlike (filterUpdate (filterUpdate s code m) code m') (filterUpdate (filterUpdate s code m') code m) := by
  obtain ⟨filter, -⟩ := filterUpdate_other s code other
  obtain ⟨filter', -⟩ := filterUpdate_other s code other.symm
  have apart := Fin.val_ne_of_ne other
  have written : withSubject (withSubject s.governor m' (subjectAfter s code m')) m (subjectAfter s code m) =
      withSubject (withSubject s.governor m (subjectAfter s code m)) m' (subjectAfter s code m') :=
    congrArg (fun subjects => { s.governor with subjects }) (Vector.set_comm _ _ apart.symm)
  refine ⟨by simp, by simp, ?_, governor_ext ?_ (by simp) fun a => ?_⟩
  · rw [filterUpdate_measure, filterUpdate_measure, filterUpdate_measure, filterUpdate_measure, filter, filter']
    exact congrArg (fun filters => { s.measure with filters }) (Vector.set_comm _ _ apart.symm)
  · rw [filterUpdate_subjects_set, filterUpdate_subjects_set, filterUpdate_subjects_set, filterUpdate_subjects_set,
      subjectAfter_other s code other, subjectAfter_other s code other.symm]
    exact Vector.set_comm _ _ apart.symm
  · rw [filterUpdates_target s code other.symm a, filterUpdates_target s code other a, written]
    simp only [or_comm]

end

/-! ### The updates of a completion -/

section
variable (s : State) (code : BitVec 10)

/-- The filter updates of some subjects from a code, one after another. -/
def filterUpdates (l : List Measured) : State := l.foldl (fun s m => filterUpdate s code m) s

theorem filterUpdates_cons (m : Measured) (l : List Measured) : filterUpdates s code (m :: l) = filterUpdates (filterUpdate s code m) code l := rfl

theorem filterUpdates_measure (l : List Measured) : (filterUpdates s code l).measure =
    { s.measure with filters := (filterUpdates s code l).measure.filters } := by
  induction l generalizing s with
  | nil => rfl
  | cons m l ih => exact (ih (filterUpdate s code m)).trans (by rw [filterUpdate_measure]; rfl)

theorem filterUpdates_of_not_mem {m : Measured} {l : List Measured} (absent : m ∉ l) :
    (filterUpdates s code l).measure.filters[m] = s.measure.filters[m] ∧ (filterUpdates s code l).governor.subjects[m] = s.governor.subjects[m] := by
  induction l generalizing s with
  | nil => exact ⟨rfl, rfl⟩
  | cons m' l ih =>
    have apart : m'.val ≠ m.val := fun same => absent (List.mem_cons.2 (.inl (Fin.ext same.symm)))
    obtain ⟨filter, subject⟩ := ih (filterUpdate s code m') fun mem => absent (List.mem_cons_of_mem _ mem)
    refine ⟨filter.trans ?_, subject.trans ?_⟩
    · rw [filterUpdate_measure]
      exact Vector.getElem_set_ne m'.isLt m.isLt apart
    · rw [filterUpdate_subjects_set]
      exact Vector.getElem_set_ne m'.isLt m.isLt apart

theorem filterUpdates_of_mem {m : Measured} {l : List Measured} (once : l.Nodup) (mem : m ∈ l) :
    (filterUpdates s code l).measure.filters[m] = some (filterAfter s code m)
    ∧ (filterUpdates s code l).governor.subjects[m] = subjectAfter s code m := by
  induction l generalizing s with
  | nil => cases mem
  | cons m' l ih =>
    obtain ⟨absent, once⟩ := List.nodup_cons.1 once
    rw [filterUpdates_cons]
    by_cases same : m = m'
    · subst same
      obtain ⟨filter, subject⟩ := filterUpdates_of_not_mem (filterUpdate s code m) code absent
      refine ⟨filter.trans ?_, subject.trans ?_⟩
      · rw [filterUpdate_measure]
        exact Vector.getElem_set_self _
      · rw [filterUpdate_subjects_set]
        exact Vector.getElem_set_self _
    · obtain ⟨filter, subject⟩ := ih (filterUpdate s code m') once ((List.mem_cons.1 mem).resolve_left same)
      rw [filter, subject, subjectAfter_other s code (Ne.symm same), (filterUpdate_other s code (Ne.symm same)).1]
      exact ⟨rfl, rfl⟩

variable (c : Channel)

/-- The state with the latest code of a channel. -/
def withLatest : State := s.withMeasure { s.measure with latest := s.measure.latest.set c (some code) }

/-- A completion measures as its updates do: the judgement of the channel's source has no part in it. -/
theorem measuresAlike_completion : MeasuresAlike (filterUpdates (withLatest s code c) code (feeds c)) (completion s c code) := by
  have either : MeasuresAlike (filterUpdates (withLatest s code c) code (feeds c)) (eitherOrder (fun s => filterUpdates s code (feeds c))
      (fun s => judgeSources s (sourceBit c.castSucc.castSucc)) (withLatest s code c)) := by
    rcases eitherOrder_cases (withLatest s code c) (fun s => filterUpdates s code (feeds c))
      (fun s => judgeSources s (sourceBit c.castSucc.castSucc)) with ends | ends <;> rw [ends]
    · exact measuresAlike_judgeSources _ _
    · exact (measuresAlike_judgeSources _ _).filterUpdates code _
  exact ⟨either.timebase, either.resolver, either.measure, either.governor⟩

theorem mem_feeds_iff {m : Measured} : m ∈ feeds c ↔ (c = 0 ∧ m.val ≤ 1) ∨ (1 ≤ c.val ∧ c.val ≤ 7 ∧ m.val = c.val + 1) := by
  revert c m
  decide

theorem feeds_nodup : (feeds c).Nodup := by
  revert c
  decide

end

theorem link_of_fields {l l' : LinkPort} (execution : l'.execution = l.execution) (slot : l'.slot = l.slot) (sdo : l'.sdo = l.sdo)
    (voidFrame : l'.voidFrame = l.voidFrame) : l' = { l with notices := l'.notices } := by
  cases l
  cases l'
  cases execution
  cases slot
  cases sdo
  cases voidFrame
  rfl

theorem governor_of_routes {g g' : Governor} (routes : g'.routes = g.routes) : g' = { g with subjects := g'.subjects, targets := g'.targets } := by
  rw [← routes]

theorem completion_eq (s : State) (c : Channel) (code : BitVec 10) : completion s c code = { s with
    measure := (completion s c code).measure
    governor := { s.governor with subjects := (completion s c code).governor.subjects, targets := (completion s c code).governor.targets }
    outputs := (completion s c code).outputs
    trip := (completion s c code).trip
    link := { s.link with notices := (completion s c code).link.notices }
    fresh := (completion s c code).fresh } := by
  apply State.eq_of_fields
  case h7 => exact governor_of_routes (completion_governor_routes s c code)
  case h10 =>
    exact link_of_fields (completion_link_execution s c code) (completion_link_slot s c code) (completion_link_sdo s c code)
      (completion_link_voidFrame s c code)
  all_goals simp

/-- Settles O38: the completion measures as its updates, each of one subject, which leave the others. -/
theorem completionMeasures : Obligations.CompletionMeasures := by
  intro s c code t fed sample shift
  have alike := measuresAlike_completion s code c
  refine ⟨?_, fun m unfed => ?_, fun m feeding => ?_, completion_eq s c code⟩
  · rw [alike.measure]
    exact filterUpdates_measure _ code _
  · rw [alike.measure, alike.governor]
    exact filterUpdates_of_not_mem (withLatest s code c) code (mt (mem_feeds_iff c).1 unfed)
  · obtain ⟨filter, subject⟩ := filterUpdates_of_mem (withLatest s code c) code (feeds_nodup c) ((mem_feeds_iff c).2 feeding)
    have value : filterAfter (withLatest s code c) code m = updatedFilter s.measure.filters[m] (sample m) s.measure.shifts[m] := rfl
    rw [alike.measure, alike.governor]
    refine ⟨_, filter, fun none => ?_, fun old held rises => ?_, fun old held falls => ?_, subject⟩
    · rw [value, none]
      rfl
    · rw [value, held]
      exact if_pos rises
    · rw [value, held]
      exact if_neg falls.not_ge

end Sys2Proof.Machine
end

section
/-! SUPPORT. The judgements of a completion (R124, R127, R141, R150 to R155): its channel's source once and SAT at the evaluations, of which none undoes
another, make one move of the Trip Unit; with the statement of what a completion and a hand-over of the saturated set judge. -/

namespace Sys2Proof.Machine

/-! ### Several judgements, of which none undoes another -/

section
variable {s₀ t : State}

/-- An output judged twice is judged once by the later sets, where a condition that came to hold in between holds still. -/
theorem judgeOutput_judgeOutput {a₀ l₀ a l a' l' : SourceSet} {o : Output} (sound : o.state = .forced ↔ forceCondition a₀ l₀ o = true)
    (held : forceCondition a l o = true → ¬ forceCondition a₀ l₀ o = true → forceCondition a' l' o = true) :
    judgeOutput a' l' (judgeOutput a l o) = judgeOutput a' l' o := by
  have reads : ∀ x : OutputState, forceCondition a' l' { o with state := x } = forceCondition a' l' o := fun _ => rfl
  by_cases met' : forceCondition a' l' o = true
  · rw [judgeOutput_of_met met', judgeOutput_eq a l o]
    exact (judgeOutput_of_met ((reads _).trans met')).trans rfl
  · by_cases met : forceCondition a l o = true
    · have met₀ : forceCondition a₀ l₀ o = true := by_contra fun not => met' (held met not)
      rw [judgeOutput_of_met met, judgeOutput_of_released met' (sound.2 met₀)]
      exact judgeOutput_of_released met' rfl
    · by_cases forced : o.state = .forced
      · rw [judgeOutput_of_released met forced, judgeOutput_of_released met' forced]
        exact judgeOutput_of_free met' (by simp)
      · rw [judgeOutput_of_free met forced]

/-- A condition that came to hold holds still, where no source that rose has fallen. -/
theorem forceCondition_held {a₀ l₀ a l a' l' : SourceSet} {o : Output}
    (active : ∀ src : Source, a.getLsbD src.val = true → a₀.getLsbD src.val = false → a'.getLsbD src.val = true)
    (latched : ∀ src : Source, l.getLsbD src.val = true → l'.getLsbD src.val = true)
    (met : forceCondition a l o = true) (not : ¬ forceCondition a₀ l₀ o = true) : forceCondition a' l' o = true := by
  rw [forceCondition_iff_exists] at met not ⊢
  obtain ⟨src, masked, mem⟩ := met
  refine ⟨src, masked, ?_⟩
  cases mode : o.restart with
  | auto =>
    rw [mode] at mem not
    exact active src mem (Bool.eq_false_iff.2 fun was => not ⟨src, masked, was⟩)
  | manual =>
    rw [mode] at mem
    exact latched src mem

theorem take_take_same (n : NoticeState) (notice : Notice) : (n.take notice).take notice = n.take notice := by
  have pending : n.pending ||| notice.bit ||| notice.bit = n.pending ||| notice.bit := by rw [BitVec.or_assoc, BitVec.or_self]
  have reported : n.reported &&& ~~~notice.bit &&& ~~~notice.bit = n.reported &&& ~~~notice.bit := by rw [BitVec.and_assoc, BitVec.and_self]
  cases notice <;> simp only [NoticeState.take, pending, reported]

/-- The sources judged, the state is moved from the first one; alone, no reader has touched the outputs or the link in between. -/
structure Moved (s₀ : State) (alone : Prop) (t : State) : Prop where
  count : t.timebase = s₀.timebase
  trip : TripMove s₀.timebase.count s₀.trip t.trip
  link : alone → newlyLatched s₀.trip t.trip = 0 → t.link = s₀.link
  notices : alone → newlyLatched s₀.trip t.trip ≠ 0 → ∀ r : Requester, t.link.notices[r] = s₀.link.notices[r].take .trip
  outputs : alone → OutputsOk s₀ → ∀ ix : OutputIx, t.outputs[ix] = judgeOutput t.trip.active t.trip.latched s₀.outputs[ix]

variable {alone : Prop}

theorem moved_refl (s₀ : State) (alone : Prop) : Moved s₀ alone s₀ := by
  have none : newlyLatched s₀.trip s₀.trip = 0 := newlyLatched_of_latched_eq rfl
  refine ⟨rfl, .refl _ _, fun _ _ => rfl, fun _ latches => absurd none latches, fun _ ok ix => ?_⟩
  by_cases met : forceCondition s₀.trip.active s₀.trip.latched s₀.outputs[ix] = true
  · rw [judgeOutput_of_met met, ← (ok ix).2.2.2 met]
  · exact (judgeOutput_of_free met fun forced => met ((ok ix).2.2.1 forced)).symm

theorem Moved.congr (h : Moved s₀ alone t) {u : State} (count : u.timebase = t.timebase)
    (trip : u.trip = { t.trip with saturated := u.trip.saturated })
    (link : alone → u.link = t.link) (outputs : alone → u.outputs = t.outputs) : Moved s₀ alone u := by
  have active : u.trip.active = t.trip.active := by rw [trip]
  have latched : u.trip.latched = t.trip.latched := by rw [trip]
  have new : newlyLatched s₀.trip u.trip = newlyLatched s₀.trip t.trip := by rw [newlyLatched, latched]; rfl
  refine ⟨count.trans h.count, ?_, fun ok => ?_, fun ok => ?_, fun ok => ?_⟩
  · obtain ⟨settings, setLatched, state, keeps, takes⟩ := h.trip
    rw [trip]
    exact ⟨by conv_lhs => rw [settings], setLatched, ⟨state.stays, state.trips, state.stops, state.waits⟩, keeps, takes⟩
  · rw [new, link ok]
    exact h.link ok
  · rw [new, link ok]
    exact h.notices ok
  · rw [outputs ok, active, latched]
    exact h.outputs ok

/-- One more judgement goes on with the move, where it lets none of the sources fall that have risen. -/
theorem Moved.judgeSources (h : Moved s₀ alone t) (which : SourceSet)
    (within : ∀ src : Source, s₀.trip.active.getLsbD src.val = true → s₀.trip.latched.getLsbD src.val = true)
    (held : ∀ src : Source, t.trip.active.getLsbD src.val = true → s₀.trip.active.getLsbD src.val = false →
      (judgedActive t which).getLsbD src.val = true) : Moved s₀ alone (judgeSources t which) := by
  have step := tripMove_judgeSources t which
  rw [h.count] at step
  have active := judgeSources_active t which
  have union : newlyLatched s₀.trip (Machine.judgeSources t which).trip =
      newlyLatched s₀.trip t.trip ||| newlyLatched t.trip (Machine.judgeSources t which).trip :=
    newlyLatched_trans (fun _ => h.trip.latched_of_latched) fun _ => step.latched_of_latched
  refine ⟨(judgeSources_timebase t which).trans h.count, ?_, fun ok none => ?_, fun ok latches r => ?_, fun ok sound ix => ?_⟩
  · rw [← active] at held
    exact h.trip.trans step within held
  · obtain ⟨first, second⟩ := BitVec.or_eq_zero_iff.1 (union.symm.trans none)
    exact (judgeSources_link_of_not_latching t which second).trans (h.link ok first)
  · by_cases second : newlyLatched t.trip (Machine.judgeSources t which).trip = 0
    · have first : newlyLatched s₀.trip t.trip ≠ 0 := fun first => latches (union.trans (by rw [first, second]; rfl))
      rw [judgeSources_link_of_not_latching t which second]
      exact h.notices ok first r
    · rw [judgeSources_notices_of_latching t which second]
      by_cases first : newlyLatched s₀.trip t.trip = 0
      · rw [h.link ok first]
      · rw [h.notices ok first, take_take_same]
  · by_cases same : (Machine.judgeSources t which).trip.active = t.trip.active
    · rw [judgeSources_of_active_same t which same]
      exact h.outputs ok sound ix
    · rw [judgeSources_output_of_active_ne t which same, h.outputs ok sound ix]
      rw [← active] at held
      exact judgeOutput_judgeOutput (sound ix).2.2 (forceCondition_held held fun _ => step.latched_of_latched)

end

/-! ### A completion in progress -/

/-- The source of a channel. -/
abbrev channelSource (c : Channel) : Source := c.castSucc.castSucc

theorem satSource_ne_channelSource (c : Channel) : satSource ≠ channelSource c := fun same => by
  have here : (10 : Nat) = c.val := congrArg Fin.val same
  omega

/-- A completion of a channel in progress, from the state before it: the evaluations still to come, and whether the channel has been judged. -/
structure Progress (s₀ : State) (c : Channel) (code : BitVec 10) (alone : Prop) (todo : List Measured) (judged : Prop) (t : State) : Prop where
  moved : Moved s₀ alone t
  active : ∀ src : Source, (src = channelSource c → judged) →
    t.trip.active.getLsbD src.val = (judgedSet t.trip t.measure.latest).getLsbD src.val
  unjudged : ¬ judged → t.trip.active.getLsbD (channelSource c).val = s₀.trip.active.getLsbD (channelSource c).val
  handed : SaturatedHanded t
  latest : t.measure.latest = s₀.measure.latest.set c (some code)
  holds : t.trip.active.getLsbD satSource.val = true → s₀.trip.active.getLsbD satSource.val = false →
    ∃ m ∉ todo, t.governor.subjects[m].saturated = true

/-- A saturated subject makes the set that its flag is handed over in not empty. -/
theorem saturatedSet_ne_zero_iff (g : Governor) : saturatedSet g ≠ 0 ↔ ∃ m : Measured, g.subjects[m].saturated = true := by
  have bit : ∀ m : Measured, (saturatedSet g).getLsbD m.val = g.subjects[m].saturated := fun m => bitsWhere_getLsbD _ m
  constructor
  · intro some
    have both : saturatedSet g &&& saturatedSet g ≠ 0 := by rwa [BitVec.and_self]
    obtain ⟨m, mem, -⟩ := (and_ne_zero_iff _ _).1 both
    exact ⟨m, (bit m).symm.trans mem⟩
  · rintro ⟨m, flagged⟩ zero
    have mem := (bit m).trans flagged
    rw [zero] at mem
    simp at mem

section
variable {s₀ t : State} {c : Channel} {code : BitVec 10} {alone judged : Prop} {todo : List Measured}

/-- SAT is active exactly when enabled with a saturated subject, whatever is still to be judged. -/
theorem Progress.sat (h : Progress s₀ c code alone todo judged t) : t.trip.active.getLsbD satSource.val = true ↔
    t.trip.enable.getLsbD 10 = true ∧ ∃ m : Measured, t.governor.subjects[m].saturated = true := by
  rw [h.active satSource fun same => absurd same (satSource_ne_channelSource c), judgedSet_sat, h.handed, Bool.and_eq_true, bne_iff_ne,
    saturatedSet_ne_zero_iff]

/-- The judgement of the channel's source: it had not moved, so nothing that rose falls. -/
theorem Progress.judge (within : ∀ src : Source, s₀.trip.active.getLsbD src.val = true → s₀.trip.latched.getLsbD src.val = true)
    (h : Progress s₀ c code alone todo judged t) (pending : ¬ judged) :
    Progress s₀ c code alone todo True (judgeSources t (sourceBit (channelSource c))) := by
  have bits : ∀ src : Source, (judgedActive t (sourceBit (channelSource c))).getLsbD src.val =
      if src = channelSource c then (judgedSet t.trip t.measure.latest).getLsbD src.val else t.trip.active.getLsbD src.val := fun src => by
    simp only [judgedActive_getLsbD, sourceBit_getLsbD, decide_eq_true_eq]
  refine ⟨h.moved.judgeSources _ within fun src risen was => ?_, fun src _ => ?_, fun not => absurd trivial not,
    saturatedHanded_judgeSources h.handed _, ?_, ?_⟩
  · rw [bits]
    split
    · next here => rw [here, h.unjudged pending, ← here, was] at risen; cases risen
    · exact risen
  · rw [judgeSources_active, judgedSet_judgeSources, bits]
    split
    · rfl
    · next other => exact h.active src fun here => absurd here other
  · rw [judgeSources_measure]
    exact h.latest
  · rw [judgeSources_active, bits, if_neg (satSource_ne_channelSource c), judgeSources_governor]
    exact h.holds

/-- A part that writes nothing that the sources or the evaluations read. -/
theorem Progress.congr (h : Progress s₀ c code alone todo judged t) {u : State} (count : u.timebase = t.timebase) (trip : u.trip = t.trip)
    (measure : u.measure.latest = t.measure.latest) (governor : u.governor = t.governor) (link : alone → u.link = t.link)
    (outputs : alone → u.outputs = t.outputs) : Progress s₀ c code alone todo judged u := by
  refine ⟨h.moved.congr count (by rw [trip]) link outputs, ?_, ?_, ?_, measure.trans h.latest, ?_⟩
  · rw [trip, measure]; exact h.active
  · rw [trip]; exact h.unjudged
  · exact h.handed.congr (by rw [trip]) fun m => by rw [governor]
  · rw [trip, governor]; exact h.holds

/-- The hand-over of a flag changed by the evaluation of a subject still to come. -/
theorem Progress.handSaturated (within : ∀ src : Source, s₀.trip.active.getLsbD src.val = true → s₀.trip.latched.getLsbD src.val = true)
    (h : Progress s₀ c code alone todo judged t) {m : Measured} (mem : m ∈ todo) (once : todo.Nodup) {u : State} {x : Governed}
    (count : u.timebase = t.timebase) (trip : u.trip = t.trip) (measure : u.measure.latest = t.measure.latest)
    (subjects : u.governor.subjects = t.governor.subjects.set m x) (link : u.link = t.link) (outputs : u.outputs = t.outputs) :
    Progress s₀ c code alone (todo.erase m) judged (handSaturated u) := by
  have other : ∀ m' : Measured, m' ≠ m → u.governor.subjects[m'] = t.governor.subjects[m'] := fun m' apart => by
    rw [subjects]
    exact Vector.getElem_set_ne m.isLt m'.isLt (Fin.val_ne_of_ne apart.symm)
  have kept : t.trip.active.getLsbD satSource.val = true → s₀.trip.active.getLsbD satSource.val = false →
      ∃ m' ∉ todo, u.governor.subjects[m'].saturated = true := fun risen was => by
    obtain ⟨m', absent, flagged⟩ := h.holds risen was
    exact ⟨m', absent, (congrArg Governed.saturated (other m' fun same => absent (same ▸ mem))).trans flagged⟩
  -- The state in which SAT is judged: the set has been handed over, and no source has moved yet.
  have enable : u.trip.enable = t.trip.enable := by rw [trip]
  have written : Moved s₀ alone (u.withTrip { u.trip with saturated := saturatedSet u.governor }) :=
    h.moved.congr count (by rw [← trip]; rfl) (fun _ => link) fun _ => outputs
  have judgedSat : (judgedSet { u.trip with saturated := saturatedSet u.governor } u.measure.latest).getLsbD satSource.val = true ↔
      t.trip.enable.getLsbD 10 = true ∧ ∃ m' : Measured, u.governor.subjects[m'].saturated = true := by
    rw [judgedSet_sat, Bool.and_eq_true, bne_iff_ne, saturatedSet_ne_zero_iff, enable]
  have judgedOther : ∀ src : Source, src ≠ satSource →
      (judgedSet { u.trip with saturated := saturatedSet u.governor } u.measure.latest).getLsbD src.val =
        (judgedSet t.trip t.measure.latest).getLsbD src.val := fun src apart => by
    rw [judgedSet_getLsbD, judgedSet_getLsbD, measure, enable,
      sourceCondition_congr (t := t.trip) (by rw [trip]) (fun _ => rfl) (fun _ => by rw [trip]) fun same => absurd same apart]
  have bits : ∀ src : Source, (judgedActive (u.withTrip { u.trip with saturated := saturatedSet u.governor }) (sourceBit satSource)).getLsbD src.val =
      if src = satSource then (judgedSet { u.trip with saturated := saturatedSet u.governor } u.measure.latest).getLsbD src.val
      else t.trip.active.getLsbD src.val := fun src => by
    simp only [judgedActive_getLsbD, sourceBit_getLsbD, decide_eq_true_eq, ← trip]
    rfl
  have handed : SaturatedHanded (u.withTrip { u.trip with saturated := saturatedSet u.governor }) := rfl
  refine ⟨written.judgeSources _ within fun src risen was => ?_, fun src ready => ?_, fun pending => ?_,
    saturatedHanded_judgeSources handed _, ?_, fun risen was => ?_⟩
  · have risen : t.trip.active.getLsbD src.val = true := by rw [← trip]; exact risen
    rw [bits]
    split
    · next sat =>
      subst sat
      obtain ⟨m', -, flagged⟩ := kept risen was
      exact judgedSat.2 ⟨(h.sat.1 risen).1, m', flagged⟩
    · exact risen
  · rw [Machine.handSaturated, judgeSources_active, judgedSet_judgeSources, bits]
    split
    · rfl
    · next apart => exact (h.active src ready).trans (judgedOther src apart).symm
  · rw [Machine.handSaturated, judgeSources_active, bits, if_neg (satSource_ne_channelSource c).symm]
    exact h.unjudged pending
  · rw [handSaturated_measure, measure]
    exact h.latest
  · rw [Machine.handSaturated, judgeSources_active, bits, if_pos rfl] at risen
    obtain ⟨enabled, m', flagged⟩ := judgedSat.1 risen
    rw [handSaturated_governor]
    by_cases active : t.trip.active.getLsbD satSource.val = true
    · obtain ⟨m', absent, flagged⟩ := kept active was
      exact ⟨m', fun mem => absent (List.mem_of_mem_erase mem), flagged⟩
    · by_cases here : m' = m
      · exact ⟨m', here ▸ once.not_mem_erase, flagged⟩
      · exact absurd (h.sat.2 ⟨enabled, m', (congrArg Governed.saturated (other m' here)).symm.trans flagged⟩) active

theorem stepped_eq (s : State) (m : Measured) (v : Nat) : ∃ targets, stepped s m v =
    s.withGovernor { s.governor with subjects := s.governor.subjects.set m (evaluated s m v), targets } := by
  unfold stepped
  split
  · exact ⟨_, recomputeTargets_eq _ _⟩
  · exact ⟨s.governor.targets, rfl⟩

/-- The evaluation of a subject still to come. -/
theorem Progress.update (within : ∀ src : Source, s₀.trip.active.getLsbD src.val = true → s₀.trip.latched.getLsbD src.val = true)
    (h : Progress s₀ c code alone todo judged t) {m : Measured} (mem : m ∈ todo) (once : todo.Nodup) :
    Progress s₀ c code alone (todo.erase m) judged (filterUpdate t code m) := by
  show Progress s₀ c code alone (todo.erase m) judged (evaluate (t.withMeasure { t.measure with
    filters := t.measure.filters.set m (some (filterAfter t code m)) }) m (reported (filterAfter t code m)))
  rw [evaluate_eq_stepped]
  generalize filters : t.measure.filters.set m (some (filterAfter t code m)) = v
  obtain ⟨targets, ends⟩ := stepped_eq (t.withMeasure { t.measure with filters := v }) m (reported (filterAfter t code m))
  rw [ends]
  generalize evaluated (t.withMeasure { t.measure with filters := v }) m (reported (filterAfter t code m)) = x
  split
  · exact h.handSaturated within mem once rfl rfl rfl rfl rfl rfl
  · next same =>
    refine ⟨h.moved.congr rfl rfl (fun _ => rfl) fun _ => rfl, h.active, h.unjudged, h.handed.congr rfl fun m' => ?_, h.latest,
      fun risen was => ?_⟩
    · exact saturated_withSubject (not_not.1 same) m'
    · obtain ⟨m', absent, flagged⟩ := h.holds risen was
      exact ⟨m', fun mem => absent (List.mem_of_mem_erase mem), (saturated_withSubject (not_not.1 same) m').trans flagged⟩

theorem Progress.updates (within : ∀ src : Source, s₀.trip.active.getLsbD src.val = true → s₀.trip.latched.getLsbD src.val = true)
    (h : Progress s₀ c code alone todo judged t) (once : todo.Nodup) : Progress s₀ c code alone [] judged (filterUpdates t code todo) := by
  induction todo generalizing t with
  | nil => exact h
  | cons m l ih =>
    have next := h.update within (List.mem_cons_self ..) once
    rw [List.erase_cons_head] at next
    exact ih next (List.nodup_cons.1 once).2

/-- A completion begins with the latest code written. -/
theorem progress_begins (active : ActiveOk s₀) (c : Channel) (code : BitVec 10) (alone : Prop) (todo : List Measured) :
    Progress s₀ c code alone todo False (withLatest s₀ code c) := by
  obtain ⟨judged, handed⟩ := active
  refine ⟨(moved_refl s₀ alone).congr rfl rfl (fun _ => rfl) fun _ => rfl, fun src other => ?_, fun _ => rfl, handed, rfl,
    fun risen was => ?_⟩
  · have apart : c.val ≠ src.val := fun same => other (Fin.ext same.symm)
    show s₀.trip.active.getLsbD src.val = (judgedSet s₀.trip (s₀.measure.latest.set c (some code))).getLsbD src.val
    rw [judgedSet_getLsbD, sourceCondition_congr (t := s₀.trip) (latest := s₀.measure.latest) rfl
      (fun small => Vector.getElem_set_ne c.isLt small apart) (fun _ => rfl) (fun _ => rfl), ← judgedSet_getLsbD, ← judged]
  · exact absurd (risen.symm.trans was) (by simp)

/-- A completion taken whole, in either order of its updates and its judgement (R101). -/
theorem progress_completion (active : ActiveOk s₀)
    (within : ∀ src : Source, s₀.trip.active.getLsbD src.val = true → s₀.trip.latched.getLsbD src.val = true)
    (c : Channel) (code : BitVec 10) : Progress s₀ c code True [] True (completion s₀ c code) := by
  have begun := progress_begins active c code True (feeds c)
  have either : Progress s₀ c code True [] True (eitherOrder (fun s => filterUpdates s code (feeds c))
      (fun s => judgeSources s (sourceBit (channelSource c))) (withLatest s₀ code c)) := by
    rcases eitherOrder_cases (withLatest s₀ code c) (fun s => filterUpdates s code (feeds c))
      (fun s => judgeSources s (sourceBit (channelSource c))) with ends | ends <;> rw [ends]
    · exact (begun.updates within (feeds_nodup c)).judge within not_false
    · exact (begun.judge within not_false).updates within (feeds_nodup c)
  exact either.congr rfl rfl rfl rfl (fun _ => rfl) fun _ => rfl

/-! ### What is judged in the end (R150 to R155) -/

/-- A source that neither the channel nor the saturated set moves is as it was. -/
theorem Progress.active_of_other (active : ActiveOk s₀) (h : Progress s₀ c code alone [] True t) {src : Source} (notChannel : src ≠ channelSource c)
    (notSat : src ≠ satSource) : t.trip.active.getLsbD src.val = s₀.trip.active.getLsbD src.val := by
  obtain ⟨judged, -⟩ := active
  have apart : c.val ≠ src.val := fun same => notChannel (Fin.ext same.symm)
  have code : ∀ small : src.val < 9, t.measure.latest[src.val] = s₀.measure.latest[src.val] := fun small => by
    simp only [h.latest, Vector.getElem_set_ne c.isLt small apart]
  rw [h.active src fun _ => trivial, judged, judgedSet_getLsbD, judgedSet_getLsbD, h.moved.trip.enable,
    sourceCondition_congr h.moved.trip.levels code (fun _ => h.moved.trip.overtemp) fun same => absurd same notSat]

/-- The condition of a channel's source, from the code of its completion (R150). -/
theorem sourceCondition_channel (x : TripUnit) (latest : Vector (Option (BitVec 10)) 9) (c : Channel) (code : BitVec 10) :
    sourceCondition x (latest.set c (some code)) (channelSource c) = true ↔
      if c = 8 then code.toNat < x.levels[c].toNat else x.levels[c].toNat ≤ code.toNat := by
  have held : (latest.set c (some code))[(channelSource c).val]'c.isLt = some code := Vector.getElem_set_self _
  have eight : ((channelSource c).val = 8) ↔ c = 8 := ⟨fun same => Fin.ext same, fun same => congrArg Fin.val same⟩
  have level : x.levels[(channelSource c).val]'c.isLt = x.levels[c] := rfl
  unfold sourceCondition
  rw [dif_pos (show (channelSource c).val < 9 from c.isLt), held]
  simp only [eight, level]
  split <;> simp

/-- The channel's source is active exactly when it is enabled and the code meets its level. -/
theorem Progress.active_channel (h : Progress s₀ c code alone [] True t) : t.trip.active.getLsbD c.val = true ↔
    s₀.trip.enable.getLsbD c.val = true
    ∧ (if c = 8 then code.toNat < s₀.trip.levels[c].toNat else s₀.trip.levels[c].toNat ≤ code.toNat) := by
  have judged : t.trip.active.getLsbD (channelSource c).val = (judgedSet t.trip t.measure.latest).getLsbD (channelSource c).val :=
    h.active _ fun _ => trivial
  rw [show t.trip.active.getLsbD c.val = _ from judged, judgedSet_getLsbD, h.latest, h.moved.trip.enable, Bool.and_eq_true, sourceCondition_channel,
    h.moved.trip.levels]
  rfl

/-- Every active source is latched. -/
theorem Progress.latched_of_active (within : ∀ src : Source, s₀.trip.active.getLsbD src.val = true → s₀.trip.latched.getLsbD src.val = true)
    (h : Progress s₀ c code alone [] True t) {src : Source} (mem : t.trip.active.getLsbD src.val = true) :
    t.trip.latched.getLsbD src.val = true := by
  have was := within src
  rw [h.moved.trip.latched, BitVec.getLsbD_or, BitVec.getLsbD_and, BitVec.getLsbD_not, mem, decide_eq_true src.isLt]
  revert was
  cases s₀.trip.active.getLsbD src.val <;> cases s₀.trip.latched.getLsbD src.val <;> decide

end

/-- Every active source of a sound Trip Unit is latched (R152). -/
theorem latched_of_tripOk {x : TripUnit} (ok : TripOk x) (src : Source) (mem : x.active.getLsbD src.val = true) :
    x.latched.getLsbD src.val = true := by
  have both := congrArg (·.getLsbD src.val) ok.1
  simpa [mem] using both

/-- SAT judged after a hand-over of the saturated set (R127, R151). -/
theorem handSaturated_judges (s : State) :
    let bit := sourceBit satSource
    let set : BitVec 9 := saturatedSet s.governor
    let on := s.trip.enable.getLsbD 10 = true ∧ ∃ m : Measured, s.governor.subjects[m].saturated = true
    let was := s.trip.active.getLsbD 10 = true
    let kept : TripUnit := { s.trip with saturated := set }
    let risen : TripUnit := risenBy s.timebase.count satSource kept
    let tripped := fun t : TripUnit => handSaturated s = postAll (handOver { s with trip := t }) .trip
    let stopClass := s.trip.stopClass.getLsbD 10 = true
    let early := s.trip.state = .armed ∨ s.trip.state = .tripped
    ((on ↔ was) → handSaturated s = { s with trip := kept })
    ∧ (¬ on → was → handSaturated s = handOver { s with trip := { kept with active := kept.active &&& ~~~bit } })
    ∧ (on → ¬ was → s.trip.latched.getLsbD 10 = true →
        handSaturated s = handOver { s with trip := { kept with active := kept.active ||| bit } })
    ∧ (on → ¬ was → s.trip.latched.getLsbD 10 = false →
      (¬ early → tripped risen)
      ∧ (early → ¬ stopClass → tripped { risen with state := .tripped })
      ∧ (early → stopClass → s.trip.stopAck = true → tripped { risen with state := .stopped })
      ∧ (early → stopClass → s.trip.stopAck = false → tripped { risen with
          state := .stopping, stopTimer := some (s.timebase.count + s.trip.stopTimeout.setWidth 32) })) := by
  intro bit set on was kept risen tripped stopClass early
  have judged : (judgedSet kept s.measure.latest).getLsbD satSource.val = true ↔ on := by
    rw [judgedSet_sat, Bool.and_eq_true, bne_iff_ne, show kept.saturated = saturatedSet s.governor from rfl, saturatedSet_ne_zero_iff]
  refine ⟨fun same => ?_, fun off active => ?_, fun rises inactive latched => ?_, fun rises inactive unlatched => ?_⟩
  · exact judgeSources_unmoved (s := s.withTrip kept) (Bool.eq_iff_iff.2 (judged.trans same))
  · exact judgeSources_falls (s := s.withTrip kept) (Bool.eq_false_iff.2 (mt judged.1 off)) active
  · exact judgeSources_rises_latched (s := s.withTrip kept) (judged.2 rises) (Bool.eq_false_iff.2 inactive) latched
  · exact judgeSources_rises (s := s.withTrip kept) (src := satSource) (judged.2 rises) (Bool.eq_false_iff.2 inactive) unlatched

/-- Settles O49: a completion is one move of the Trip Unit whose sources end as judged, and the hand-over judges SAT alone. -/
theorem completionJudgesChannelSource : Obligations.CompletionJudgesChannelSource := by
  refine ⟨fun s c code active ok => ?_, fun s => ?_⟩
  · have within := latched_of_tripOk ok
    have done := progress_completion active within c code
    have move := done.moved.trip
    intro t new early stays
    rw [show t.trip.stopClass = s.trip.stopClass from move.stopClass]
    refine ⟨done.active_channel, fun x other => ?_, ?_, ?_, fun m => ?_, fun src => done.latched_of_active within, fun src => move.latched_of_latched,
      move.latched, move.state.stays, move.state.trips, move.state.stops, move.state.waits, move.keeps, move.takes, done.moved.link trivial,
      done.moved.notices trivial, done.moved.outputs trivial, move.settings⟩
    · refine done.active_of_other active (src := channelSource x) (fun same => other (Fin.castSucc_injective _ (Fin.castSucc_injective _ same))) fun same => ?_
      exact satSource_ne_channelSource x same.symm
    · refine done.active_of_other active (src := overtempSource) (fun same => ?_) (by decide)
      have here : (9 : Nat) = c.val := congrArg Fin.val same
      omega
    · rw [← move.enable]
      exact done.sat
    · rw [show t.trip.saturated = saturatedSet t.governor from done.handed]
      exact bitsWhere_getLsbD _ m
  · exact ⟨fun m => bitsWhere_getLsbD _ m, handSaturated_judges s⟩

end Sys2Proof.Machine
end

section
/-! SUPPORT. The sequencer's steps (R106, R112) and a CH0 completion into which readers fall (R125): its parts in any order leave the measures and the Trip
Unit of the completion taken whole, but for the capture; with their statement. -/

namespace Sys2Proof.Machine

/-! ### The parts of a CH0 completion in any order (R125) -/

/-- The evaluations among the parts of a completion. -/
def evaluationsOf (parts : List CompletionPart) : List Measured :=
  parts.filterMap fun part => match part with
    | .evaluation m => some m
    | .judgement | .periodEnd _ | .readGovernor => none

/-- The updates of some subjects leave the same in any order. -/
theorem filterUpdates_perm {l l' : List Measured} (perm : l.Perm l') (s : State) (code : BitVec 10) :
    MeasuresAlike (filterUpdates s code l) (filterUpdates s code l') := by
  induction perm generalizing s with
  | nil => exact .refl s
  | cons m _ ih => exact ih (filterUpdate s code m)
  | swap m m' l =>
    by_cases same : m = m'
    · rw [same]
      exact .refl _
    · exact (filterUpdate_comm s code (Ne.symm same)).filterUpdates code l
  | trans _ _ ih ih' => exact (ih s).trans (ih' s)

/-- The parts measure as the evaluations among them. -/
theorem measuresAlike_parts (s : State) (code : BitVec 10) (parts : List CompletionPart) :
    MeasuresAlike (filterUpdates s code (evaluationsOf parts)) (parts.foldl (takePart code) s) := by
  induction parts generalizing s with
  | nil => exact .refl s
  | cons part parts ih =>
    have others : MeasuresAlike s (takePart code s part) → MeasuresAlike (filterUpdates s code (evaluationsOf parts))
        ((part :: parts).foldl (takePart code) s) := fun alike => (alike.filterUpdates code _).trans (ih _)
    cases part with
    | evaluation m => exact ih (filterUpdate s code m)
    | judgement => exact others (measuresAlike_judgeSources s _)
    | periodEnd ix => exact others (measuresAlike_takePeriodEnd s ix)
    | readGovernor => exact others (measuresAlike_readGovernor s)

section
variable {s₀ t : State} {code : BitVec 10}

theorem Progress.judged_iff {c : Channel} {alone judged judged' : Prop} {todo : List Measured} (h : Progress s₀ c code alone todo judged t)
    (same : judged ↔ judged') : Progress s₀ c code alone todo judged' t := propext same ▸ h

/-- The parts left of a CH0 completion, each once, finish it. -/
theorem Progress.parts (within : ∀ src : Source, s₀.trip.active.getLsbD src.val = true → s₀.trip.latched.getLsbD src.val = true)
    {parts : List CompletionPart} (once : parts.Nodup) (evaluations : (evaluationsOf parts).Nodup)
    (h : Progress s₀ 0 code False (evaluationsOf parts) (.judgement ∉ parts) t) :
    Progress s₀ 0 code False [] True (parts.foldl (takePart code) t) := by
  induction parts generalizing t with
  | nil => exact h.judged_iff (by simp)
  | cons part parts ih =>
    obtain ⟨apart, onceLater⟩ := List.nodup_cons.1 once
    cases part with
    | evaluation m =>
      have next := h.update within (List.mem_cons_self ..) evaluations
      rw [show evaluationsOf (.evaluation m :: parts) = m :: evaluationsOf parts from rfl, List.erase_cons_head] at next
      exact ih onceLater (List.nodup_cons.1 evaluations).2 (next.judged_iff (by simp))
    | judgement =>
      have judged := h.judge within fun pending => pending (List.mem_cons_self ..)
      exact ih onceLater evaluations (judged.judged_iff (iff_of_true trivial apart))
    | periodEnd ix =>
      have ended : Progress s₀ 0 code False (evaluationsOf parts) (.judgement ∉ .periodEnd ix :: parts) (takePart code t (.periodEnd ix)) :=
        h.congr rfl rfl rfl rfl False.elim False.elim
      exact ih onceLater evaluations (ended.judged_iff (by simp))
    | readGovernor =>
      have read : Progress s₀ 0 code False (evaluationsOf parts) (.judgement ∉ .readGovernor :: parts) (takePart code t .readGovernor) :=
        h.congr (by simp [takePart]) (by simp [takePart]) (by simp [takePart]) (by simp [takePart]) False.elim False.elim
      exact ih onceLater evaluations (read.judged_iff (by simp))

/-- Completions that end with the same Governor end with the same Trip Unit, but for the capture. -/
theorem Progress.trip_unique {c : Channel} {alone alone' : Prop} {u : State} (h : Progress s₀ c code alone [] True t)
    (h' : Progress s₀ c code alone' [] True u) (governor : u.governor = t.governor) :
    u.trip = { t.trip with capture := u.trip.capture } := by
  have saturated : u.trip.saturated = t.trip.saturated :=
    h'.handed.trans ((congrArg saturatedSet governor).trans h.handed.symm)
  refine h.moved.trip.unique h'.moved.trip (sourceSet_ext fun src => ?_) saturated
  rw [h.active src fun _ => trivial, h'.active src fun _ => trivial, h.latest, h'.latest]
  exact congrArg (·.getLsbD src.val) (judgedSet_congr (h'.moved.trip.enable.trans h.moved.trip.enable.symm)
    (h'.moved.trip.levels.trans h.moved.trip.levels.symm) (h'.moved.trip.overtemp.trans h.moved.trip.overtemp.symm) saturated)

end

/-! ### The readers taken within it -/

section
variable (s : State) (code : BitVec 10)

theorem readersWithin_nodup : (readersWithin s).Nodup := by
  unfold readersWithin
  have ends : (((List.finRange 4).filter fun ix => s.outputs[ix].nextEnd == s.timebase && Config.readsWithin s.fresh ix.val).map
      CompletionPart.periodEnd).Nodup :=
    ((List.nodup_finRange 4).filter _).map fun _ _ same => CompletionPart.periodEnd.inj same
  refine List.Nodup.append ends ?_ fun part mem mem' => ?_
  · split
    · split
      · exact List.nodup_singleton _
      · exact List.nodup_nil
    · exact List.nodup_nil
  · obtain ⟨ix, -, rfl⟩ := List.mem_map.1 mem
    split at mem'
    · split at mem'
      · cases List.mem_singleton.1 mem'
      · cases mem'
    · cases mem'

theorem parts_nodup : (([.evaluation 0, .evaluation 1, .judgement] : List CompletionPart) ++ readersWithin s).Nodup := by
  refine List.Nodup.append (by decide) (readersWithin_nodup s) fun part mem mem' => ?_
  rcases mem_readersWithin s mem' with ⟨ix, rfl, -⟩ | ⟨rfl, -⟩ <;> simp at mem

theorem evaluationsOf_parts : evaluationsOf (([.evaluation 0, .evaluation 1, .judgement] : List CompletionPart) ++ readersWithin s) = [0, 1] := by
  have none : evaluationsOf (readersWithin s) = [] := by
    refine List.filterMap_eq_nil_iff.2 fun part mem => ?_
    rcases mem_readersWithin s mem with ⟨ix, rfl, -⟩ | ⟨rfl, -⟩ <;> rfl
  rw [evaluationsOf, List.filterMap_append, ← evaluationsOf, ← evaluationsOf, none]
  rfl

/-- With readers or without, in any order, a CH0 completion measures and judges as the completion taken whole, but for the capture. -/
theorem scanCompletion_zero_ends (active : ActiveOk s) (ok : TripOk s.trip) :
    (scanCompletion s 0 code).measure = (completion s 0 code).measure ∧ (scanCompletion s 0 code).governor = (completion s 0 code).governor
    ∧ (scanCompletion s 0 code).trip = { (completion s 0 code).trip with capture := (scanCompletion s 0 code).trip.capture } := by
  unfold scanCompletion
  split
  · obtain ⟨order, perm, ends⟩ := completionAround_parts s code (readersWithin s)
    have within := latched_of_tripOk ok
    have evaluations : (evaluationsOf order).Perm [0, 1] := by
      rw [← evaluationsOf_parts s]
      exact perm.filterMap _
    have whole := measuresAlike_completion s code 0
    have around : MeasuresAlike (filterUpdates (withLatest s code 0) code [0, 1]) (order.foldl (takePart code) (withLatest s code 0)) :=
      (filterUpdates_perm evaluations.symm _ code).trans (measuresAlike_parts _ code order)
    have alike : MeasuresAlike (completion s 0 code) (order.foldl (takePart code) (withLatest s code 0)) := whole.symm.trans around
    have begun := progress_begins active 0 code False (evaluationsOf order)
    have judged : CompletionPart.judgement ∈ order := perm.mem_iff.2 (by simp)
    have once : order.Nodup := perm.nodup_iff.2 (parts_nodup s)
    have done := (begun.judged_iff (iff_of_false not_false (not_not_intro judged))).parts within once (evaluations.nodup_iff.2 (by decide))
    have trip := (progress_completion active within 0 code).trip_unique done alike.governor
    rw [ends]
    exact ⟨alike.measure, alike.governor, trip⟩
  · exact ⟨rfl, rfl, rfl⟩

/-- A CH0 completion is the completion taken whole, or its parts and readers that stand at its moment, each once, in some order. -/
theorem scanCompletion_zero_cases : scanCompletion s 0 code = completion s 0 code ∨ ∃ readers order : List CompletionPart,
    order.Perm ([.evaluation 0, .evaluation 1, .judgement] ++ readers) ∧ readers.Nodup
    ∧ (∀ x ∈ readers, (∃ ix : OutputIx, x = .periodEnd ix ∧ s.outputs[ix].nextEnd = s.timebase)
        ∨ (x = .readGovernor ∧ ∃ e ∈ s.link.execution, e.command = .readGovernor))
    ∧ scanCompletion s 0 code = (order.foldl (takePart code) (withLatest s code 0)).withFresh (scanCompletion s 0 code).fresh := by
  by_cases around : readersWithin s ≠ []
  · have row : scanCompletion s 0 code = completionAround s code (readersWithin s) := if_pos ⟨rfl, around⟩
    obtain ⟨order, perm, ends⟩ := completionAround_parts s code (readersWithin s)
    refine .inr ⟨readersWithin s, order, perm, readersWithin_nodup s, fun x mem => mem_readersWithin s mem, ?_⟩
    rw [row, ends]
    rfl
  · exact .inl (if_neg fun both => around both.2)

end

/-! ### The rows (R106, R112) -/

section
variable {s : State} (code : BitVec 10)

theorem exec_conversionCompletion_due {c : Channel} (converting : s.measure.sequencer = .converting c s.timebase) :
    exec (.conversionCompletion code) s = .next ((scanCompletion s c code).withSequencer (afterConversion c)) := by
  simp only [exec, execConversionCompletion, converting, if_true]

theorem exec_spotCompletion_due {resume : Option Resume} (spotting : s.measure.sequencer = .spot s.timebase resume) :
    exec (.spotCompletion code) s = .next ((completion s spotChannel code).withSequencer (resumeAt s.timebase resume)) := by
  simp only [exec, execSpotCompletion, spotting, if_true]

theorem afterConversion_of_next {c next : Channel} (follows : next.val = c.val + 1) : afterConversion c = .gap next 1 := by
  have more : c.val + 1 < 9 := follows ▸ next.isLt
  rw [afterConversion, dif_pos more]
  exact congrArg (Sequencer.gap · 1) (Fin.ext follows.symm)

theorem resumeAt_starting {now : Moment} {left : Nat} (runs : left ≠ 0) : resumeAt now (some (.starting left)) = .starting left := if_neg runs

theorem resumeAt_gap {now : Moment} {c : Channel} {left : Nat} (runs : left ≠ 0) : resumeAt now (some (.gap c left)) = .gap c left := if_neg runs

end

/-- Settles O39: each row by its state of the sequencer; the parts of a CH0 completion by their lemmas. -/
theorem sequencerSteps : Obligations.SequencerSteps := by
  intro s code after now
  have spot : ∀ {resume q}, s.measure.sequencer = .spot now resume → resumeAt now resume = q →
      exec (.spotCompletion code) s = .next (after (completion s 3 code) q) := by
    rintro resume _ spotting rfl
    exact exec_spotCompletion_due code spotting
  refine ⟨fun starting => ?_, fun c gap => ?_, fun c next converting follows free => ?_, fun converting => ?_, fun ix free => ?_,
    fun e executing command => ?_, fun ix ends => if_pos ends, fun m m' ok other => ?_, fun converting => ?_, fun spotting => spot spotting rfl,
    fun left runs spotting => spot spotting (resumeAt_starting runs), fun c left runs spotting => spot spotting (resumeAt_gap runs),
    fun spotting => spot spotting rfl, fun c spotting => ?_⟩
  · simp only [exec, execStartStepEnd, starting]
    rfl
  · simp only [exec, execGapEnd, gap]
    rfl
  · have whole : scanCompletion s c code = completion s c code := by
      by_cases zero : c = 0
      · exact scanCompletion_of_no_reader s (free zero).1 (free zero).2 c code
      · exact scanCompletion_of_ne s zero code
    rw [exec_conversionCompletion_due code converting, whole, afterConversion_of_next follows]
    rfl
  · exact ⟨_, exec_conversionCompletion_due code converting, scanCompletion_zero_cases s code, scanCompletion_zero_ends s code⟩
  · have taken : (takePart code s (.periodEnd ix)).outputs[ix] = endPeriod s.governor.targets[ix] s.outputs[ix] := Vector.getElem_set_self _
    rw [taken, endPeriod_of_free free]
  · exact exec_readGovernor executing command
  · intro t
    have apart := Fin.val_ne_of_ne other
    refine ⟨targetsOk_filterUpdate ok code m, ?_, filterAfter s code m, ?_, ?_⟩
    · rw [show t.governor.subjects = _ from filterUpdate_subjects_set s code m]
      exact Vector.getElem_set_ne m.isLt m'.isLt apart
    · rw [show t.measure = _ from filterUpdate_measure s code m]
      exact Vector.getElem_set_self _
    · rw [show t.governor.subjects = _ from filterUpdate_subjects_set s code m]
      exact Vector.getElem_set_self _
  · rw [exec_conversionCompletion_due code converting, scanCompletion_of_ne s (by decide) code]
    rfl
  · rcases spotting with spotting | spotting <;> exact spot spotting rfl

end Sys2Proof.Machine
end

section
/-! SUPPORT. PLACE (R30 to R32): the record its fields name, the fields out of range, and its checks in order, with the statements. -/

namespace Sys2Proof.Machine

/-! ### The fields of a PLACE (R30) -/

theorem byte_eq_iff {b : Byte} {n : Nat} (small : n < 256) : b = BitVec.ofNat 8 n ↔ b.toNat = n := by
  rw [← BitVec.toNat_inj, BitVec.toNat_ofNat, Nat.mod_eq_of_lt small]

theorem classOf_class {b : Byte} {cls : RecordClass} (is : b = (match cls with | .ordinary => 0 | .anchored => 1)) : classOf b = some cls := by
  rw [is]
  cases cls <;> rfl

theorem classOf_none {b : Byte} (wide : 1 < b.toNat) : classOf b = none := by
  have notZero : b ≠ 0 := fun zero => by rw [zero] at wide; cases wide
  have notOne : b ≠ 1 := fun one => by rw [one] at wide; exact absurd wide (by decide)
  rw [classOf, if_neg notZero, if_neg notOne]

theorem classOf_some {b : Byte} (narrow : b.toNat ≤ 1) : ∃ cls, classOf b = some cls ∧ (cls = .anchored ↔ b = 1) := by
  rcases Nat.le_one_iff_eq_zero_or_eq_one.1 narrow with zero | one
  · have is : b = 0 := (byte_eq_iff (by decide)).2 zero
    exact ⟨.ordinary, by rw [is]; rfl, by rw [is]; decide⟩
  · have is : b = 1 := (byte_eq_iff (by decide)).2 one
    exact ⟨.anchored, by rw [is]; rfl, by rw [is]; decide⟩

theorem boundInRange_iff {sub : Subject} {bound : Half} : boundInRange sub bound = true ↔ (sub = 9 → bound.toNat ≤ 15) := by
  unfold boundInRange
  by_cases fan : sub = fanCapSubject
  · simp [fan, fanCapSubject]
  · simp only [Bool.or_eq_true, bne_iff_ne, decide_eq_true_eq]
    exact iff_of_true (.inl fan) fun here => absurd here fan

section
variable {r : Requester} {cls : RecordClass} {flag : Byte} {lease : Half}

theorem placeLeaseOf_absent (absent : flag = 0) (system : r = 0) : placeLeaseOf r cls flag lease = some none :=
  (if_pos absent).trans (if_pos system)

theorem placeLeaseOf_present (present : flag = 1) (nonzero : lease ≠ 0) (short : lease.toNat ≤ 43200) (ordinary : cls = .ordinary) :
    placeLeaseOf r cls flag lease = some (some lease.toNat) := by
  have notAbsent : flag ≠ 0 := by rw [present]; decide
  exact (if_neg notAbsent).trans (if_pos ⟨present, nonzero, short, ordinary⟩)

theorem placeLeaseOf_none (out : (flag = 0 ∧ r ≠ 0) ∨ (flag = 1 ∧ (lease = 0 ∨ 43200 < lease.toNat)) ∨ (flag = 1 ∧ cls = .anchored)
    ∨ 1 < flag.toNat) : placeLeaseOf r cls flag lease = none := by
  unfold placeLeaseOf
  by_cases absent : flag = 0
  · have agent : r ≠ 0 := by
      rcases out with ⟨-, agent⟩ | ⟨present, -⟩ | ⟨present, -⟩ | wide
      · exact agent
      · rw [absent] at present; cases present
      · rw [absent] at present; cases present
      · rw [absent] at wide; cases wide
    rw [if_pos absent, if_neg agent]
  · rw [if_neg absent]
    refine if_neg fun ⟨present, nonzero, short, ordinary⟩ => ?_
    rcases out with ⟨absent', -⟩ | ⟨-, zero | long⟩ | ⟨-, anchored⟩ | wide
    · exact absent absent'
    · exact nonzero zero
    · exact absurd short long.not_ge
    · rw [anchored] at ordinary; cases ordinary
    · rw [present] at wide; exact absurd wide (by decide)

end

/-- A field of a PLACE out of range (R30). -/
def PlaceOutOfRange (r : Requester) (f : PlaceFields) : Prop :=
  9 < f.subject.toNat ∨ (f.subject = 9 ∧ 15 < f.bound.toNat) ∨ f.mask = 0 ∨ 7 < f.mask.toNat ∨ 1 < f.cls.toNat
    ∨ (f.leaseFlag = 0 ∧ r ≠ 0) ∨ (f.leaseFlag = 1 ∧ (f.lease = 0 ∨ 43200 < f.lease.toNat)) ∨ (f.leaseFlag = 1 ∧ f.cls = 1)
    ∨ 1 < f.leaseFlag.toNat

section
variable {r : Requester} {f : PlaceFields}

theorem placedRecord_of_fields {sub : Subject} {mask : Mask} {cls : RecordClass} {lease : Option Nat} (subject : below 10 f.subject = some sub)
    (names : maskOf f.mask = some mask) (is : classOf f.cls = some cls) (bounded : boundInRange sub f.bound = true)
    (leased : placeLeaseOf r cls f.leaseFlag f.lease = some lease) : placedRecord r f =
      some { state := .live, owner := r, subject := sub, tag := f.tag, cls := cls, bound := f.bound, mask := mask,
             pendingBound := none, pendingMask := none, lease := lease, generation := 0 } := by
  simp only [placedRecord, subject, names, is, bounded, leased, if_true]

theorem placedRecord_of_outOfRange (out : PlaceOutOfRange r f) : placedRecord r f = none := by
  unfold placedRecord
  split
  · next sub mask cls subject names is =>
    split
    · next bounded =>
      have subjectIs := below_eq.1 subject
      have subOk := sub.isLt
      have leased : placeLeaseOf r cls f.leaseFlag f.lease = none := by
        refine placeLeaseOf_none ?_
        rcases out with wide | ⟨fan, level⟩ | empty | wide | wide | absent | present | ⟨present, anchored⟩ | wide
        · omega
        · have here : sub = 9 := Fin.ext (by rw [← subjectIs, fan]; rfl)
          exact absurd (boundInRange_iff.1 bounded here) level.not_ge
        · rw [maskOf_none (.inl empty)] at names; cases names
        · rw [maskOf_none (.inr wide)] at names; cases names
        · rw [classOf_none wide] at is; cases is
        · exact .inl absent
        · exact .inr (.inl present)
        · have anchoredIs : classOf f.cls = some .anchored := by rw [anchored]; rfl
          exact .inr (.inr (.inl ⟨present, Option.some.inj (is.symm.trans anchoredIs)⟩))
        · exact .inr (.inr (.inr wide))
      rw [leased]
    · rfl
  · rfl

theorem placedRecord_of_inRange (inRange : ¬ PlaceOutOfRange r f) : ∃ x : Record, placedRecord r f = some x ∧ x.owner = r
    ∧ f.subject.toNat = x.subject.val ∧ x.tag = f.tag := by
  simp only [PlaceOutOfRange, not_or, not_and_or, not_lt] at inRange
  obtain ⟨subjectOk, boundOk, maskSome, maskOk, clsOk, absentOk, presentOk, ordinaryOk, flagOk⟩ := inRange
  have subject : below 10 f.subject = some ⟨f.subject.toNat, by omega⟩ := below_eq.2 rfl
  have maskPos : 1 ≤ f.mask.toNat := Nat.pos_of_ne_zero fun zero => maskSome ((byte_eq_iff (by decide)).2 zero)
  obtain ⟨cls, is, anchored⟩ := classOf_some clsOk
  have bounded : boundInRange ⟨f.subject.toNat, by omega⟩ f.bound = true := by
    refine boundInRange_iff.2 fun fan => boundOk.resolve_left (not_not_intro ((byte_eq_iff (by decide)).2 ?_))
    exact congrArg Fin.val fan
  obtain ⟨lease, leased⟩ : ∃ lease, placeLeaseOf r cls f.leaseFlag f.lease = some lease := by
    rcases Nat.le_one_iff_eq_zero_or_eq_one.1 flagOk with zero | one
    · have absent : f.leaseFlag = 0 := (byte_eq_iff (by decide)).2 zero
      exact ⟨none, placeLeaseOf_absent absent (not_not.1 (absentOk.resolve_left (not_not_intro absent)))⟩
    · have present : f.leaseFlag = 1 := (byte_eq_iff (by decide)).2 one
      obtain ⟨nonzero, short⟩ := presentOk.resolve_left (not_not_intro present)
      have ordinary : cls = .ordinary := by
        have notAnchored := mt anchored.1 (ordinaryOk.resolve_left (not_not_intro present))
        cases cls with
        | ordinary => rfl
        | anchored => exact absurd rfl notAnchored
      exact ⟨_, placeLeaseOf_present present nonzero short ordinary⟩
  exact ⟨_, placedRecord_of_fields subject (maskOf_some maskPos maskOk) is bounded leased, rfl, rfl, rfl⟩

end

/-! ### The checks of a PLACE (R30, R31) -/

section
variable {s : State} {r : Requester} {f : PlaceFields}

theorem placeClaim_denied (anchored : f.cls = 1) (agent : r ≠ 0) : placeClaim r f s = refuse s .denied := if_pos ⟨anchored, agent⟩

theorem placeClaim_range (mayAnchor : ¬ (f.cls = 1 ∧ r ≠ 0)) (out : placedRecord r f = none) : placeClaim r f s = refuse s .range := by
  rw [placeClaim, if_neg mayAnchor, out]

section
variable {x : Record} (mayAnchor : ¬ (f.cls = 1 ∧ r ≠ 0)) (placed : placedRecord r f = some x)
include mayAnchor placed

theorem placeClaim_duplicate {i : SlotIx} {q : Record} (held : findKey s.table ⟨r, x.subject, x.tag⟩ = some (i, q)) :
    placeClaim r f s = (s, ⟨.duplicate, [slotByte i]⟩) := by
  rw [placeClaim, if_neg mayAnchor, placed]
  simp only [held]

variable (fresh : findKey s.table ⟨r, x.subject, x.tag⟩ = none)
include fresh

theorem placeClaim_quota (agent : r ≠ 0) (many : 12 ≤ owned s.table r) : placeClaim r f s = refuse s .quota := by
  have reached : r ≠ 0 ∧ quota ≤ owned s.table r := ⟨agent, many⟩
  rw [placeClaim, if_neg mayAnchor, placed]
  simp only [fresh, if_pos reached]

variable (within : r ≠ 0 → owned s.table r < 12)
include within

theorem placeClaim_full (full : lowestFree s.table = none) : placeClaim r f s = refuse s .full := by
  have notReached : ¬ (r ≠ 0 ∧ quota ≤ owned s.table r) := fun ⟨agent, many⟩ => absurd (within agent) many.not_gt
  rw [placeClaim, if_neg mayAnchor, placed]
  simp only [fresh, if_neg notReached, full]

theorem placeClaim_free {i : SlotIx} (lowest : lowestFree s.table = some i) :
    placeClaim r f s = (recompute (s.withTable (s.table.set i (some x))) x.subject, ⟨.ok, [slotByte i]⟩) := by
  have notReached : ¬ (r ≠ 0 ∧ quota ≤ owned s.table r) := fun ⟨agent, many⟩ => absurd (within agent) many.not_gt
  rw [placeClaim, if_neg mayAnchor, placed]
  simp only [fresh, if_neg notReached, lowest]

end

theorem lowestFree_eq_none {t : Table} (full : ∀ i : SlotIx, t[i] ≠ none) : lowestFree t = none := by
  refine List.find?_eq_none.2 fun i _ free => ?_
  exact full i (Option.isNone_iff_eq_none.1 free)

end

/-- A claim that answers with this state and reply. -/
theorem next_of_claim {s : State} {e : Execution} {i : Instr} {p : State × Reply} (row : exec i s = answer p) {u : State} {status : Status}
    {payload : List Byte} (claim : p = (u, ⟨status, payload⟩)) (executing : u.link.execution = some e) :
    exec i s = .next (completed u e status payload) := by
  rw [claim] at row
  exact row.trans (answer_completed executing status payload)

/-- Settles O18: the fields name the record, no check refuses it, and the lowest FREE slot takes it. -/
theorem placeCreatesRecord : Obligations.PlaceCreatesRecord := by
  intro s e f sub cls lease i executing command subject bounded maskPos maskOk is anchored absent present fresh within free lowest
  have leased : placeLeaseOf e.requester cls f.leaseFlag f.lease = some lease := by
    cases lease with
    | none => exact placeLeaseOf_absent (absent rfl).1 (absent rfl).2
    | some n =>
      obtain ⟨flag, rfl, pos, short⟩ := present n rfl
      have ordinary : cls = .ordinary := by
        cases cls with
        | ordinary => rfl
        | anchored => cases (anchored rfl).2
      refine placeLeaseOf_present flag (fun zero => ?_) short ordinary
      rw [zero] at pos
      cases pos
  have placed := placedRecord_of_fields (r := e.requester) (below_eq.2 subject) (maskOf_some maskPos maskOk) (classOf_class is)
    (boundInRange_iff.2 bounded) leased
  have mayAnchor : ¬ (f.cls = 1 ∧ e.requester ≠ 0) := fun ⟨one, agent⟩ => by
    cases cls with
    | ordinary => rw [is] at one; cases one
    | anchored => exact agent (anchored rfl).1
  have claim := placeClaim_free mayAnchor placed (findKey_none fresh) within (lowestFree_eq_some free lowest)
  exact next_of_claim (exec_place executing f command) claim ((congrArg LinkPort.execution (recompute_link _ _)).trans executing)

/-- Settles O19: each check of a PLACE, in order. -/
theorem placeRefused : Obligations.PlaceRefused := by
  intro s e f executing command agent outOfRange sameKey freshKey
  have row := exec_place executing f command
  refine ⟨fun anchored foreign => ?_, fun mayAnchor out => ?_, fun mayAnchor inRange => ?_⟩
  · exact answers_of_refuse executing row (placeClaim_denied anchored foreign)
  · exact answers_of_refuse executing row (placeClaim_range mayAnchor (placedRecord_of_outOfRange out))
  obtain ⟨x, placed, owner, subject, tag⟩ := placedRecord_of_inRange inRange
  have same : ∀ q : Record, (q.owner = e.requester ∧ q.subject = x.subject ∧ q.tag = x.tag) ↔ sameKey q := fun q => by
    show _ ↔ q.owner = e.requester ∧ f.subject.toNat = q.subject.val ∧ q.tag = f.tag
    have subjects : q.subject = x.subject ↔ f.subject.toNat = q.subject.val := by rw [subject, eq_comm, Fin.ext_iff]
    rw [tag]
    exact and_congr_right' (and_congr_left' subjects)
  have unheld : freshKey → findKey s.table ⟨e.requester, x.subject, x.tag⟩ = none :=
    fun fresh => findKey_none fun j q held named => fresh j q held ((same q).1 named)
  refine ⟨fun i q held named only => ?_, fun fresh foreign many => ?_, fun fresh within full => ?_⟩
  · exact answers_of_read executing row (placeClaim_duplicate mayAnchor placed
      (findKey_some held ((same q).2 named) fun j x' held' named' => only j x' held' ((same x').1 named')))
  · exact answers_of_refuse executing row (placeClaim_quota mayAnchor placed (unheld fresh) foreign many)
  · exact answers_of_refuse executing row (placeClaim_full mayAnchor placed (unheld fresh) within (lowestFree_eq_none full))

end Sys2Proof.Machine
end

section
/-! SUPPORT. CHANGE, RENEW and RETIRE (R33 to R42): the first check of each, the keyed checks of Table 2-3 on what it read, and what it writes; with the
statements, and with those of the range checks of every table command. -/

namespace Sys2Proof.Machine

/-! ### A record altered -/

theorem changeBound_eq (bound : Half) (r : Record) : changeBound bound r =
    { r with bound := (changeBound bound r).bound, pendingBound := (changeBound bound r).pendingBound } := by
  unfold changeBound
  split
  · rfl
  · split <;> rfl

theorem changeMask_eq (new : Mask) (r : Record) : changeMask new r =
    { r with mask := (changeMask new r).mask, pendingMask := (changeMask new r).pendingMask } := by
  unfold changeMask
  split <;> rfl

theorem differs_eq_false {r q : Record} : differs r q = false ↔
    q.bound = r.bound ∧ q.mask = r.mask ∧ q.pendingBound = r.pendingBound ∧ q.pendingMask = r.pendingMask := by
  simp only [differs, Bool.or_eq_false_iff, bne_eq_false_iff_eq, and_assoc]
  exact and_congr eq_comm (and_congr eq_comm (and_congr eq_comm eq_comm))

/-- A CHANGE advances the generation exactly when one of the four fields differs (R36). -/
theorem changed_generation (bound : Half) (new : Mask) (r : Record) : (changed bound new r).generation =
    if (changed bound new r).bound = r.bound ∧ (changed bound new r).mask = r.mask
        ∧ (changed bound new r).pendingBound = r.pendingBound ∧ (changed bound new r).pendingMask = r.pendingMask
      then r.generation else r.generation + 1 := by
  have kept : (changeMask new (changeBound bound r)).generation = r.generation := by rw [changeMask_eq, changeBound_eq]
  unfold changed
  dsimp only
  by_cases same : differs r (changeMask new (changeBound bound r)) = true
  · have moved := mt differs_eq_false.2 (by rw [same]; exact Bool.noConfusion)
    rw [if_pos same]
    exact (if_neg moved).symm
  · have still := differs_eq_false.1 (Bool.eq_false_iff.2 same)
    rw [if_neg same]
    exact kept.trans (if_pos still).symm

theorem changed_state (bound : Half) (new : Mask) (r : Record) : (changed bound new r).state = r.state := by rw [changed_eq]

theorem statusOf_retired (r : Record) : statusOf (retired r) = .staged := rfl

/-- Retiring a record leaves every entry (R16, R42). -/
theorem recompute_altered_retired {s : State} (ok : ResolvedOk s) {i : SlotIx} {r : Record} (held : s.table[i] = some r) (issuer : Requester) :
    recompute (altered s issuer i (retired r)) r.subject = altered s issuer i (retired r) := by
  have table : (altered s issuer i (retired r)).table = s.table.set i (some (retired r)) := by unfold altered; split <;> rfl
  have posture : (altered s issuer i (retired r)).posture = s.posture := by unfold altered; split <;> rfl
  have resolver : (altered s issuer i (retired r)).resolver = s.resolver := by unfold altered; split <;> rfl
  refine recompute_same (ok.entry_set table posture resolver ?_)
  rw [held]
  exact bears_congr rfl rfl rfl

/-! ### The claims -/

section
variable {s : State} {issuer : Requester}

/-- The expected generation as a keyed command reads it (R27). -/
def expectation (x : ExpectFields) : Option Byte := if x.flag = 1 then some x.generation else none

theorem flagOk_of_expected {x : ExpectFields} {r : Record} (expected : Expected x r) : FlagOk x.flag := expected.imp id And.left

section
variable {f : ChangeFields} {k : Key} {mask : Mask} (key : keyOf f.key = some k) (names : maskOf f.mask = some mask) (flag : FlagOk f.expect.flag)
  (bounded : boundInRange k.subject f.bound = true)
include key names flag bounded

theorem changeClaim_refused {reply : Reply}
    (refused : checkKeyed s.table issuer k (expectation f.expect) (fun _ => false) = .error reply) : changeClaim issuer f s = (s, reply) := by
  unfold expectation at refused
  rw [changeClaim, key, names, expectOf_some flag]
  simp only [bounded, if_true, refused]

theorem changeClaim_accepted {i : SlotIx} {r : Record}
    (found : checkKeyed s.table issuer k (expectation f.expect) (fun _ => false) = .ok (i, r)) : changeClaim issuer f s =
      (if differsInForce r (changed f.bound mask r) then recompute (writeRecord s issuer i (changed f.bound mask r)) r.subject
        else writeRecord s issuer i (changed f.bound mask r),
        ⟨statusOf (changed f.bound mask r), slotAndGeneration i (changed f.bound mask r)⟩) := by
  unfold expectation at found
  rw [changeClaim, key, names, expectOf_some flag]
  simp only [bounded, if_true, found]

end

section
variable {f : RenewFields} {k : Key} (key : keyOf f.key = some k) (flag : FlagOk f.expect.flag) (short : f.lease.toNat ≤ 43200)
  (allowed : f.lease = 0 → issuer = 0)
include key flag short allowed

theorem renewClaim_refused {reply : Reply}
    (refused : checkKeyed s.table issuer k (expectation f.expect) (renewOutOfRange f.lease) = .error reply) : renewClaim issuer f s = (s, reply) := by
  have inRange : f.lease.toNat ≤ maxLease ∧ ¬ (f.lease = 0 ∧ issuer ≠ 0) := ⟨short, fun ⟨zero, agent⟩ => agent (allowed zero)⟩
  unfold expectation at refused
  rw [renewClaim, key, expectOf_some flag]
  simp only [if_pos inRange, refused]

theorem renewClaim_accepted {i : SlotIx} {r : Record}
    (found : checkKeyed s.table issuer k (expectation f.expect) (renewOutOfRange f.lease) = .ok (i, r)) : renewClaim issuer f s =
      (writeRecord s issuer i (renewed f.lease r), ⟨statusOf (renewed f.lease r), slotAndGeneration i (renewed f.lease r)⟩) := by
  have inRange : f.lease.toNat ≤ maxLease ∧ ¬ (f.lease = 0 ∧ issuer ≠ 0) := ⟨short, fun ⟨zero, agent⟩ => agent (allowed zero)⟩
  unfold expectation at found
  rw [renewClaim, key, expectOf_some flag]
  simp only [if_pos inRange, found]

end

section
variable {f : RetireFields} {k : Key} (key : keyOf f.key = some k) (flag : FlagOk f.expect.flag)
include key flag

theorem retireClaim_refused {reply : Reply}
    (refused : checkKeyed s.table issuer k (expectation f.expect) (fun _ => false) = .error reply) : retireClaim issuer f s = (s, reply) := by
  unfold expectation at refused
  rw [retireClaim, key, expectOf_some flag]
  simp only [refused]

theorem retireClaim_accepted {i : SlotIx} {r : Record}
    (found : checkKeyed s.table issuer k (expectation f.expect) (fun _ => false) = .ok (i, r)) : retireClaim issuer f s =
      (recompute (writeRecord s issuer i (retired r)) r.subject, ⟨.staged, slotAndGeneration i (retired r)⟩) := by
  unfold expectation at found
  rw [retireClaim, key, expectOf_some flag]
  simp only [found, statusOf_retired]

end

/-- The RANGE check of RENEW on the record (R39). -/
theorem renewOutOfRange_iff {lease : Half} {r : Record} : renewOutOfRange lease r = true ↔ r.cls = .anchored ∨ (lease = 0 ∧ r.owner ≠ 0) := by
  simp only [renewOutOfRange, Bool.or_eq_true, Bool.and_eq_true, beq_iff_eq, bne_iff_ne]

/-- RENEW's RANGE on the record comes after NOT_FOUND and DENIED (Table 2-3). -/
theorem checkKeyed_range {f : KeyFields} {k : Key} (key : keyOf f = some k) {i : SlotIx} {r : Record} (held : HoldsKey s.table f i r)
    (may : issuer = r.owner ∨ issuer = 0) (expected : Option Byte) {test : Record → Bool} (out : test r = true) :
    checkKeyed s.table issuer k expected test = .error ⟨.range, []⟩ := by
  rw [checkKeyed, findKey_holds key held]
  simp only [mayAlter_of may, out, Bool.not_true, Bool.false_eq_true, if_false, if_true]

end

theorem subject_of_holds {t : Table} {f : KeyFields} {k : Key} (key : keyOf f = some k) {i : SlotIx} {r : Record} (held : HoldsKey t f i r) :
    r.subject = k.subject := ((names_iff key r).1 held.2.1).2.1

/-- Settles O21: the keyed checks pass, and the record found is changed. -/
theorem changeAltersRecord : Obligations.ChangeAltersRecord := by
  intro s e f i r executing command may bounded maskPos maskOk
  obtain ⟨k, key⟩ := keyOf_isSome (holdsKey_inRange may.1)
  have live := may.2.2.1
  have inRange : boundInRange k.subject f.bound = true := boundInRange_iff.2 (by rw [← subject_of_holds key may.1]; exact bounded)
  have claim := changeClaim_accepted key (maskOf_some maskPos maskOk) (flagOk_of_expected may.2.2.2) inRange
    (checkKeyed_ok key may (fun _ => false) rfl)
  refine ⟨_, rfl, by rw [← changed_generation]; exact changed_eq _ _ r, next_of_claim (exec_change executing f command) (claim.trans ?_) ?_⟩
  · rw [writeRecord_altered, statusOf_live ((changed_state _ _ r).trans live)]
    refine congrArg (·, _) ?_
    by_cases same : (changed f.bound (f.mask.setWidth 3) r).bound = r.bound ∧ (changed f.bound (f.mask.setWidth 3) r).mask = r.mask
    · rw [if_pos same, differsInForce_eq_false.2 same]
      rfl
    · rw [if_neg same, if_pos (Bool.eq_true_of_not_eq_false (mt differsInForce_eq_false.1 same))]
  · split
    · exact (altered_execution _ _ _ _).trans executing
    · rw [recompute_link]
      exact (altered_execution _ _ _ _).trans executing

/-- Settles O22: the keyed checks pass, and the record found is renewed. -/
theorem renewSetsLease : Obligations.RenewSetsLease := by
  intro s e f i r executing command may short allowed ordinary
  obtain ⟨k, key⟩ := keyOf_isSome (holdsKey_inRange may.1)
  have inRange : renewOutOfRange f.lease r = false := by
    refine Bool.eq_false_iff.2 (mt renewOutOfRange_iff.1 ?_)
    rintro (anchored | ⟨zero, agent⟩)
    · rw [ordinary] at anchored; cases anchored
    · exact agent (allowed zero).2
  have claim := renewClaim_accepted key (flagOk_of_expected may.2.2.2) short (fun zero => (allowed zero).1)
    (checkKeyed_ok key may (renewOutOfRange f.lease) inRange)
  refine next_of_claim (exec_renew executing f command) (claim.trans ?_) ((altered_execution _ _ _ _).trans executing)
  rw [writeRecord_altered, statusOf_live (r := renewed f.lease r) may.2.2.1]
  rfl

/-- Settles O23: the keyed checks pass, the record found retires, and its entry comes out the same. -/
theorem retireWithdrawsRecord : Obligations.RetireWithdrawsRecord := by
  intro s e f i r ok executing command may
  obtain ⟨k, key⟩ := keyOf_isSome (holdsKey_inRange may.1)
  have claim := retireClaim_accepted key (flagOk_of_expected may.2.2.2) (checkKeyed_ok key may (fun _ => false) rfl)
  rw [writeRecord_altered, recompute_altered_retired ok may.1.1] at claim
  exact next_of_claim (exec_retire executing f command) claim ((altered_execution _ _ _ _).trans executing)

/-- Settles O24: the keyed checks refuse on the fields that each command has read. -/
theorem keyedCommandsRefused : Obligations.KeyedCommandsRefused := by
  intro s e status payload executing
  refine ⟨fun f command inRange bounded maskPos maskOk flag refusal => ?_, fun f command inRange flag refusal => ?_,
    fun f command inRange flag short allowed => ⟨fun i r held may out => ?_, fun refusal renewable => ?_⟩⟩
  · obtain ⟨k, key⟩ := keyOf_isSome inRange
    have bound : boundInRange k.subject f.bound = true := by
      refine boundInRange_iff.2 fun fan => bounded ((byte_eq_iff (by decide)).2 ?_)
      rw [(keyOf_some key).2.1, fan]
      rfl
    exact answers_of_read executing (exec_change executing f command) (changeClaim_refused key (maskOf_some maskPos maskOk) flag bound
      (checkKeyed_refused key refusal _ fun _ _ _ _ => rfl))
  · obtain ⟨k, key⟩ := keyOf_isSome inRange
    exact answers_of_read executing (exec_retire executing f command) (retireClaim_refused key flag
      (checkKeyed_refused key refusal _ fun _ _ _ _ => rfl))
  · obtain ⟨k, key⟩ := keyOf_isSome inRange
    exact answers_of_read executing (exec_renew executing f command) (renewClaim_refused key flag short allowed
      (checkKeyed_range key held may _ (renewOutOfRange_iff.2 out)))
  · obtain ⟨k, key⟩ := keyOf_isSome inRange
    refine answers_of_read executing (exec_renew executing f command) (renewClaim_refused key flag short allowed
      (checkKeyed_refused key refusal _ fun i r held may => Bool.eq_false_iff.2 (mt renewOutOfRange_iff.1 ?_)))
    obtain ⟨ordinary, own⟩ := renewable i r held may
    rintro (anchored | ⟨zero, agent⟩)
    · rw [ordinary] at anchored; cases anchored
    · exact agent (own zero)

/-! ### The first checks (R33, R39, R41, R43, R46, R47, R48) -/

section
variable {s : State} {issuer : Requester}

theorem changeClaim_range {f : ChangeFields} (out : ¬ KeyInRange f.key ∨ (f.key.subject = 9 ∧ 15 < f.bound.toNat) ∨ f.mask = 0
    ∨ 7 < f.mask.toNat ∨ ¬ FlagOk f.expect.flag) : changeClaim issuer f s = refuse s .range := by
  unfold changeClaim
  split
  · next k mask expected key names flag =>
    refine if_neg fun bounded => ?_
    rcases out with outOfRange | ⟨fan, level⟩ | empty | wide | badFlag
    · rw [keyOf_none outOfRange] at key; cases key
    · have here : k.subject = 9 := Fin.ext ((keyOf_some key).2.1.symm.trans (by rw [fan]; rfl))
      exact absurd (boundInRange_iff.1 bounded here) level.not_ge
    · rw [maskOf_none (.inl empty)] at names; cases names
    · rw [maskOf_none (.inr wide)] at names; cases names
    · rw [expectOf_none badFlag] at flag; cases flag
  · rfl

theorem renewClaim_range {f : RenewFields} (out : ¬ KeyInRange f.key ∨ 43200 < f.lease.toNat ∨ (f.lease = 0 ∧ issuer ≠ 0)
    ∨ ¬ FlagOk f.expect.flag) : renewClaim issuer f s = refuse s .range := by
  unfold renewClaim
  split
  · next k expected key flag =>
    refine if_neg fun ⟨short, allowed⟩ => ?_
    rcases out with outOfRange | long | forbidden | badFlag
    · rw [keyOf_none outOfRange] at key; cases key
    · exact absurd short long.not_ge
    · exact allowed forbidden
    · rw [expectOf_none badFlag] at flag; cases flag
  · rfl

theorem retireClaim_range {f : RetireFields} (out : ¬ KeyInRange f.key ∨ ¬ FlagOk f.expect.flag) :
    retireClaim issuer f s = refuse s .range := by
  unfold retireClaim
  split
  · next k expected key flag =>
    rcases out with outOfRange | badFlag
    · rw [keyOf_none outOfRange] at key; cases key
    · rw [expectOf_none badFlag] at flag; cases flag
  · rfl

theorem sweepClaim_range {owner subject : Byte} (out : 7 < owner.toNat ∨ (9 < subject.toNat ∧ subject ≠ 0xFF)) :
    sweepClaim issuer owner subject s = refuse s .range := by
  unfold sweepClaim
  split
  · next o sel ownerRead subjectRead =>
    rcases out with wide | ⟨wide, notAll⟩
    · rw [below_eq_none.2 wide] at ownerRead; cases ownerRead
    · rw [selectorOf_none wide notAll] at subjectRead; cases subjectRead
  · rfl

end

/-- Settles O25: each claim refuses on the field that it could not read. -/
theorem tableCommandsRefusedRange : Obligations.TableCommandsRefusedRange := by
  intro s e executing
  refine ⟨fun f command out => ?_, fun f command out => ?_, fun f command out => ?_, fun owner subject command out => ?_,
    fun k command out => ?_, fun slot command wide => ?_, fun start command wide => ?_⟩
  · exact answers_of_refuse executing (exec_change executing f command) (changeClaim_range out)
  · exact answers_of_refuse executing (exec_renew executing f command) (renewClaim_range out)
  · exact answers_of_refuse executing (exec_retire executing f command) (retireClaim_range out)
  · exact answers_of_refuse executing (exec_sweep executing owner subject command) (sweepClaim_range out)
  · exact answers_of_refuse executing (exec_lookup executing k command) (by rw [lookupClaim, keyOf_none out])
  · exact answers_of_refuse executing (exec_readSlot executing slot command) (by rw [readSlotClaim, below_eq_none.2 wide])
  · exact answers_of_refuse executing (exec_list executing start command) (by rw [listClaim, below_eq_none.2 wide])

end Sys2Proof.Machine
end

section
/-! SUPPORT. The passes over the table: SWEEP (R43 to R45), a commit (R55, R58, R59) and a tick of the lease clock (R61, R62); and the notice commands (R172,
R173); with their statements. -/

namespace Sys2Proof.Machine

/-! ### SWEEP (R43 to R45) -/

theorem selectorOf_names {b : Byte} {subject : Option Subject}
    (names : (subject = none ∧ b = 0xFF) ∨ ∃ sub, subject = some sub ∧ b.toNat = sub.val) : selectorOf b = some subject := by
  unfold selectorOf
  rcases names with ⟨rfl, all⟩ | ⟨sub, rfl, is⟩
  · exact if_pos all
  · have notAll : b ≠ 0xFF := fun all => by
      have small := sub.isLt
      rw [← is, all] at small
      exact absurd small (by decide)
    rw [if_neg notAll, below_eq.2 is]
    rfl

section
variable {s : State} {issuer owner : Requester} {subject : Option Subject} {ownerByte subjectByte : Byte}

/-- The record that a SWEEP leaves. -/
def swept (owner : Requester) (subject : Option Subject) (r : Record) : Record := if sweeps owner subject r then retired r else r

theorem bears_swept (owner : Requester) (subject : Option Subject) (p : Posture) (sub : Subject) (r : Record) :
    bears p sub (swept owner subject r) = bears p sub r := by
  unfold swept
  split
  · exact bears_congr rfl rfl rfl
  · rfl

/-- The state after the pass of a SWEEP: the table and the notices, for a retired record bears on the entries as before. -/
def sweptState (s : State) (issuer owner : Requester) (subject : Option Subject) : State :=
  if overrides issuer owner then
    postList (s.withTable (rewrite s.table fun r => some (swept owner subject r)))
      ((slotsWhere s.table (sweeps owner subject)).map fun p => (owner, .overridden p.1))
  else s.withTable (rewrite s.table fun r => some (swept owner subject r))

/-- Notices posted after the table is written touch the notice states alone. -/
theorem postList_withTable (s : State) (t : Table) (l : List (Requester × Notice)) : ∃ notices, postList (s.withTable t) l =
    { s with table := t, link := { s.link with notices } } := ⟨_, (postList_eq _ _).trans rfl⟩

theorem sweptState_eq : ∃ notices, sweptState s issuer owner subject =
    { s with table := rewrite s.table fun r => some (swept owner subject r), link := { s.link with notices } } := by
  unfold sweptState
  split
  · exact postList_withTable s _ _
  · generalize (rewrite s.table fun r => some (swept owner subject r)) = t
    exact ⟨s.link.notices, rfl⟩

theorem resolvedOk_sweptState (ok : ResolvedOk s) : ResolvedOk (sweptState s issuer owner subject) := by
  obtain ⟨notices, ends⟩ := sweptState_eq (s := s) (issuer := issuer) (owner := owner) (subject := subject)
  rw [ends]
  intro sub
  refine (ok sub).trans (Eq.symm ?_)
  exact computeEntry_rewrite fun _ r _ => bears_swept owner subject _ sub r

theorem sweptState_notices_of_overrides (overriding : issuer = 0 ∧ owner ≠ 0) : PostedToOwners s.link.notices
    (sweptState s issuer owner subject).link.notices s.table (sweeps owner subject) .overridden := by
  have posts : overrides issuer owner = true := by simpa [overrides] using overriding
  have owners : ((slotsWhere s.table (sweeps owner subject)).map fun p => (owner, Notice.overridden p.1)) =
      (slotsWhere s.table (sweeps owner subject)).map fun p => (p.2.owner, .overridden p.1) := by
    refine List.map_congr_left fun p mem => ?_
    have marked := (mem_slotsWhere.1 mem).2
    simp only [sweeps, Bool.and_eq_true, beq_iff_eq] at marked
    rw [marked.1.2]
  rw [sweptState, if_pos posts, owners]
  have posted := postList_postedToOwners .overridden (.inr (.inl rfl)) (s.withTable (rewrite s.table fun r => some (swept owner subject r)))
    s.table (sweeps owner subject)
  rw [State.withTable_link] at posted
  exact posted

theorem sweptState_notices_of_own (own : ¬ (issuer = 0 ∧ owner ≠ 0)) : (sweptState s issuer owner subject).link.notices = s.link.notices := by
  have silent : ¬ overrides issuer owner = true := by simpa [overrides] using own
  rw [sweptState, if_neg silent]
  rfl

section
variable (ownerRead : below 8 ownerByte = some owner) (subjectRead : selectorOf subjectByte = some subject)
include ownerRead subjectRead

theorem sweepClaim_denied (agent : issuer ≠ 0) (foreign : owner ≠ issuer) : sweepClaim issuer ownerByte subjectByte s = refuse s .denied := by
  rw [sweepClaim, ownerRead, subjectRead]
  exact if_pos ⟨agent, foreign⟩

theorem sweepClaim_allowed (ok : ResolvedOk s) (allowed : issuer = 0 ∨ owner = issuer) : sweepClaim issuer ownerByte subjectByte s =
    (sweptState s issuer owner subject,
      ⟨if (slotsWhere s.table (sweeps owner subject)).isEmpty then .ok else .staged, [byteOf (slotsWhere s.table (sweeps owner subject)).length]⟩) := by
  have may : ¬ (issuer ≠ 0 ∧ owner ≠ issuer) := fun ⟨agent, foreign⟩ => allowed.elim agent foreign
  have claim : sweepClaim issuer ownerByte subjectByte s =
      (recomputeList (sweptState s issuer owner subject) (subjectsOf (slotsWhere s.table (sweeps owner subject))),
        ⟨if (slotsWhere s.table (sweeps owner subject)).isEmpty then .ok else .staged, [byteOf (slotsWhere s.table (sweeps owner subject)).length]⟩) := by
    rw [sweepClaim, ownerRead, subjectRead]
    exact if_neg may
  rw [claim, recomputeList_same _ (resolvedOk_sweptState ok)]

end

end

/-- Settles O26: the pass writes the table and the notices of the owners, and leaves every entry. -/
theorem sweepRetiresRecords : Obligations.SweepRetiresRecords := by
  intro s e ownerByte subjectByte owner subject executing command ownerIs subjectIs marks
  have ownerRead := below_eq.2 ownerIs
  have subjectRead := selectorOf_names subjectIs
  have row := exec_sweep executing ownerByte subjectByte command
  refine ⟨fun agent foreign => ?_, fun ok allowed => ?_⟩
  · exact answers_of_refuse executing row (sweepClaim_denied ownerRead subjectRead agent foreign)
  have claim := sweepClaim_allowed ownerRead subjectRead ok allowed
  have posted := sweptState_notices_of_overrides (s := s) (issuer := e.requester) (owner := owner) (subject := subject)
  have silent := sweptState_notices_of_own (s := s) (issuer := e.requester) (owner := owner) (subject := subject)
  obtain ⟨notices, ends⟩ := sweptState_eq (s := s) (issuer := e.requester) (owner := owner) (subject := subject)
  rw [ends] at claim posted silent
  refine ⟨rewrite s.table fun r => some (swept owner subject r), notices, (slotsWhere s.table marks).length, slotsWhere_length s.table marks,
    fun i => ?_, fun system agent => posted ⟨system, agent⟩, silent, ?_⟩
  · rw [rewrite_get]
    cases s.table[i] <;> rfl
  · refine next_of_claim row (claim.trans ?_) executing
    have empty : (slotsWhere s.table (sweeps owner subject)).isEmpty = true ↔ (slotsWhere s.table marks).length = 0 := by
      rw [List.isEmpty_iff, List.length_eq_zero_iff]
      rfl
    simp only [empty]
    rfl

/-! ### The commit (R55, R58, R59) -/

section
variable (s : State) (sub : Subject)

/-- The state after the pass of a commit, before its recompute. -/
def committedState : State :=
  postList (s.withTable (rewrite s.table (committed sub))) ((slotsWhere s.table (committedBy sub)).map fun p => (p.2.owner, .committed p.1))

theorem commit_eq_committedState : commit s sub =
    if (slotsWhere s.table (committedBy sub)).isEmpty then committedState s sub else recompute (committedState s sub) sub := rfl

theorem committedState_eq : ∃ notices, committedState s sub =
    { s with table := rewrite s.table (committed sub), link := { s.link with notices } } := postList_withTable s _ _

theorem committedState_notices : PostedToOwners s.link.notices (committedState s sub).link.notices s.table (committedBy sub) .committed := by
  have posted := postList_postedToOwners .committed (.inr (.inr rfl)) (s.withTable (rewrite s.table (committed sub))) s.table (committedBy sub)
  rw [State.withTable_link] at posted
  exact posted

theorem commit_notices : (commit s sub).link.notices = (committedState s sub).link.notices := by
  rw [commit_eq_committedState]
  split
  · rfl
  · rw [recompute_link]

theorem slotsWhere_isEmpty_iff {t : Table} {test : Record → Bool} : (slotsWhere t test).isEmpty = true ↔
    ∀ i : SlotIx, ∀ r ∈ t[i], test r = false := by
  rw [List.isEmpty_iff, List.eq_nil_iff_forall_not_mem]
  constructor
  · intro none i r held
    exact Bool.eq_false_iff.2 fun passes => none (i, r) (mem_slotsWhere.2 ⟨held, passes⟩)
  · rintro none ⟨i, r⟩ mem
    obtain ⟨held, passes⟩ := mem_slotsWhere.1 mem
    rw [none i r held] at passes
    cases passes

theorem committed_of_untreated {r : Record} (untreated : committedBy sub r = false) : committed sub r = some r :=
  if_neg (by rw [untreated]; exact Bool.false_ne_true)

/-- A commit that treats nothing changes nothing (R59). -/
theorem commit_of_untreated (untreated : ∀ i : SlotIx, ∀ r ∈ s.table[i], committedBy sub r = false) : commit s sub = s := by
  have none : slotsWhere s.table (committedBy sub) = [] := List.isEmpty_iff.1 (slotsWhere_isEmpty_iff.2 untreated)
  have table : rewrite s.table (committed sub) = s.table := by
    refine Vector.ext fun i hi => ?_
    have slot := rewrite_get s.table (committed sub) ⟨i, hi⟩
    refine slot.trans ?_
    cases held : s.table[(⟨i, hi⟩ : SlotIx)] with
    | none => rfl
    | some r => exact committed_of_untreated sub (untreated ⟨i, hi⟩ r held)
  rw [commit_eq_committedState, committedState, none, table]
  rfl

theorem commit_of_treated {i : SlotIx} {r : Record} (held : s.table[i] = some r) (treated : committedBy sub r = true) :
    commit s sub = recompute (committedState s sub) sub := by
  rw [commit_eq_committedState, if_neg]
  intro empty
  rw [slotsWhere_isEmpty_iff.1 empty i r held] at treated
  cases treated

theorem recompute_resolver_of_ne {other : Subject} (ne : other ≠ sub) : (recompute s sub).resolver[other] = s.resolver[other] := by
  rw [recompute_resolver]
  exact Vector.getElem_set_ne sub.isLt other.isLt (Fin.val_ne_of_ne ne.symm)

theorem committedState_resolver : (committedState s sub).resolver = s.resolver := by
  obtain ⟨notices, ends⟩ := committedState_eq s sub
  rw [ends]

theorem committedState_governor : (committedState s sub).governor = s.governor := by
  obtain ⟨notices, ends⟩ := committedState_eq s sub
  rw [ends]

theorem commit_resolver_of_ne {other : Subject} (ne : other ≠ sub) : (commit s sub).resolver[other] = s.resolver[other] := by
  have kept : (committedState s sub).resolver[other] = s.resolver[other] := congrArg (fun v => v[other]) (committedState_resolver s sub)
  rw [commit_eq_committedState]
  split
  · exact kept
  · exact (recompute_resolver_of_ne _ sub ne).trans kept

/-- The Governor moves with the fan cap alone, and then in the FAN target (R97). -/
theorem commit_governor : ((commit s sub).fanCap = s.fanCap → (commit s sub).governor = s.governor)
    ∧ ((commit s sub).fanCap ≠ s.fanCap → (commit s sub).governor.targets =
        s.governor.targets.set fanOutput (min (demand s.governor fanOutput) (commit s sub).fanCap)) := by
  have cap : (committedState s sub).fanCap = s.fanCap := fanCap_congr (committedState_resolver s sub)
  rw [commit_eq_committedState, ← cap, ← committedState_governor s sub]
  split
  · exact ⟨fun _ => rfl, fun moved => absurd rfl moved⟩
  · exact ⟨recompute_governor_of_fanCap _, recompute_targets_of_fanCap_ne⟩

theorem commit_eq : ∃ table resolver targets notices, commit s sub = { s with
    table, resolver, governor := { s.governor with targets }, link := { s.link with notices } } := by
  obtain ⟨notices, ends⟩ := committedState_eq s sub
  rw [commit_eq_committedState, ends]
  split
  · exact ⟨_, s.resolver, s.governor.targets, notices, rfl⟩
  · obtain ⟨resolver, targets, h⟩ : ∃ resolver targets, recompute
        { s with table := rewrite s.table (committed sub), link := { s.link with notices } } sub =
        { s with table := rewrite s.table (committed sub), link := { s.link with notices }, resolver, governor := { s.governor with targets } } :=
      ⟨_, _, recompute_eq sub⟩
    exact ⟨_, _, _, _, h⟩

end

section
variable {sub : Subject} {r : Record}

theorem committed_of_retiring (treated : committedBy sub r = true) (retiring : r.state = .retiring) : committed sub r = none := by
  rw [committed, if_pos treated, retiring]

theorem committed_of_live (treated : committedBy sub r = true) (live : r.state = .live) : committed sub r = some { r with
    bound := r.pendingBound.getD r.bound, mask := r.pendingMask.getD r.mask, pendingBound := none, pendingMask := none
    generation := r.generation + 1 } := by
  rw [committed, if_pos treated, live]

theorem committedBy_of_retiring (subject : r.subject = sub) (retiring : r.state = .retiring) : committedBy sub r = true := by
  simp [committedBy, waits, subject, retiring]

end

/-- Settles O28: the table by the record's part in the commit, the entries by the recompute, and the timer by its rescheduling. -/
theorem commitTakesPendingParts : Obligations.CommitTakesPendingParts := by
  intro s sub due treated n
  have row : exec (.commitTimerExpiry sub) s =
      .next ((commit s sub).withCommitTimers ((commit s sub).commitTimers.set sub (reschedule (commit s sub).commitTimers[sub]))) := if_pos due
  have slots : ∀ i : SlotIx, (commit s sub).table[i] = s.table[i].bind (committed sub) := fun i => by rw [commit_table, rewrite_get]
  have timers := commit_commitTimers s sub
  have posted := committedState_notices s sub
  rw [← commit_notices] at posted
  obtain ⟨unchanged, changed⟩ := commit_governor s sub
  refine ⟨_, row, fun i free => ?_, fun i r held untreated => ?_, fun i r held subject retiring => ?_, fun i r held taken live => ?_, posted, ?_,
    fun other ne => commit_resolver_of_ne s sub ne, fun ⟨i, r, held, taken⟩ => ?_, fun untreated => ?_, unchanged, changed, ?_⟩
  · exact (slots i).trans (by rw [free]; rfl)
  · exact (slots i).trans (by rw [held]; exact committed_of_untreated sub untreated)
  · exact (slots i).trans (by rw [held]; exact committed_of_retiring (committedBy_of_retiring subject retiring) retiring)
  · exact (slots i).trans (by rw [held]; exact committed_of_live taken live)
  · rw [timers]
    rfl
  · have entry : (commit s sub).resolver[sub] = computeEntry (commit s sub).table (commit s sub).posture.current sub := by
      rw [commit_of_treated s sub held taken, recompute_table, recompute_posture, recompute_resolver]
      exact Vector.getElem_set_self _
    rw [commit_posture] at entry
    exact entry
  · rw [commit_of_untreated s sub untreated]
    rfl
  · obtain ⟨table, resolver, targets, notices, ends⟩ := commit_eq s sub
    rw [ends]
    rfl

/-! ### The tick of the lease clock (R61, R62) -/

section
variable {r : Record}

theorem ticked_of_no_lease (none : r.lease = none) : ticked r = r := by
  have kept : expiredByTick r = false := by simp [expiredByTick, none]
  have same : r.lease.map (· - 1) = r.lease := by rw [none]; rfl
  rw [ticked, kept, if_neg Bool.false_ne_true]
  split
  · exact congrArg (fun lease => { r with lease }) same
  · rfl

variable (ok : RecordOk r)
include ok

theorem live_of_lease {n : Nat} (leased : r.lease = some n) : r.state = .live := by
  obtain ⟨-, -, -, -, -, -, retiring, -⟩ := ok
  cases state : r.state with
  | live => rfl
  | retiring =>
    rw [(retiring state).1] at leased
    cases leased

/-- A sound record expires by the tick exactly when its lease is 1. -/
theorem expiredByTick_iff : expiredByTick r = true ↔ r.lease = some 1 := by
  have leases := ok.2.2.2.1
  cases leased : r.lease with
  | none => simp [expiredByTick, leased]
  | some n =>
    have least := (leases n leased).1
    simp only [expiredByTick, live_of_lease ok leased, leased, beq_self_eq_true, Bool.true_and, decide_eq_true_eq, Option.some.injEq]
    omega

theorem ticked_of_long {n : Nat} (leased : r.lease = some n) (long : 2 ≤ n) : ticked r = { r with lease := some (n - 1) } := by
  have kept : ¬ expiredByTick r = true := by
    rw [expiredByTick_iff ok, leased, Option.some.injEq]
    omega
  rw [ticked, if_neg kept, live_of_lease ok leased]
  simp only [leased, Option.map_some]

theorem ticked_of_last (leased : r.lease = some 1) : ticked r = retired r := by
  rw [ticked, if_pos ((expiredByTick_iff ok).2 leased)]

end

/-- The records that pass decide who is posted. -/
theorem PostedToOwners.congr {before after : Vector NoticeState 8} {t : Table} {test test' : Record → Bool} {kind : SlotIx → Notice}
    (posted : PostedToOwners before after t test kind) (same : ∀ i : SlotIx, ∀ r ∈ t[i], test' r = true ↔ test r = true) :
    PostedToOwners before after t test' kind := by
  intro q
  obtain ⟨others, owners⟩ := posted q
  refine ⟨fun none => others fun i r held passes => none i r held ((same i r held).2 passes), fun i r held passes owner last => ?_⟩
  exact owners i r held ((same i r held).1 passes) owner fun j x held' passes' owner' => last j x held' ((same j x held').2 passes') owner'

/-- The tick recomputes nothing that comes out otherwise, since an expired record bears on the entries as before (R62). -/
theorem tickLeases_of_resolvedOk {s : State} (ok : ResolvedOk s) : tickLeases s =
    postList (s.withTable (rewrite s.table fun r => some (ticked r))) ((slotsWhere s.table expiredByTick).map fun p => (p.2.owner, .expired p.1)) := by
  obtain ⟨notices, ends⟩ := postList_withTable s (rewrite s.table fun r => some (ticked r))
    ((slotsWhere s.table expiredByTick).map fun p => (p.2.owner, .expired p.1))
  refine recomputeList_same _ ?_
  rw [ends]
  intro sub
  refine (ok sub).trans (Eq.symm ?_)
  exact computeEntry_rewrite fun _ r _ => bears_ticked _ sub r

/-- Settles O30: the table by the lease of each record, the notices by those that expire. -/
theorem leaseTickCountsDown : Obligations.LeaseTickCountsDown := by
  intro s ok tableOk due
  obtain ⟨sound, -, -⟩ := tableOk
  have row : exec .leaseTick s = .next ((tickLeases s).withLeaseClock (laterCount (tickLeases s).leaseClock leaseInterval)) := if_pos due
  have posted := postList_postedToOwners .expired (.inl rfl) (s.withTable (rewrite s.table fun r => some (ticked r))) s.table expiredByTick
  rw [State.withTable_link] at posted
  obtain ⟨notices, ends⟩ := postList_withTable s (rewrite s.table fun r => some (ticked r))
    ((slotsWhere s.table expiredByTick).map fun p => (p.2.owner, .expired p.1))
  rw [tickLeases_of_resolvedOk ok, ends] at row
  rw [ends] at posted
  have slots : ∀ i : SlotIx, (rewrite s.table fun r => some (ticked r))[i] = s.table[i].bind fun r => some (ticked r) := rewrite_get _ _
  generalize (rewrite s.table fun r => some (ticked r)) = table at row posted slots
  refine ⟨_, row, fun i free => ?_, fun i r held none => ?_, fun i r n held leased long => ?_, fun i r held leased => ?_,
    posted.congr fun i r held => ?_, rfl⟩
  · exact (slots i).trans (by rw [free]; rfl)
  · exact (slots i).trans (by rw [held]; exact congrArg some (ticked_of_no_lease none))
  · exact (slots i).trans (by rw [held]; exact congrArg some (ticked_of_long (sound i r held) leased long))
  · exact (slots i).trans (by rw [held]; exact congrArg some (ticked_of_last (sound i r held) leased))
  · rw [expiredByTick_iff (sound i r held), beq_iff_eq]

/-! ### Notices (R172, R173) -/

theorem kind_getLsbD : ∀ i k : Fin 6, (BitVec.twoPow 6 i.val).getLsbD k.val = true ↔ k = i := by decide

/-- Settles O14: the bits by the six kinds; a notice posted writes one notice state. -/
theorem noticePosted : Obligations.NoticePosted := by
  refine ⟨fun n k => ?_, fun s r n => ⟨s.link.notices[r].take n, rfl, rfl, rfl, rfl, ?_, ?_, ?_⟩⟩
  · cases n with
    | expired slot => exact kind_getLsbD 0 k
    | overridden slot => exact kind_getLsbD 1 k
    | committed slot => exact kind_getLsbD 2 k
    | posture => exact kind_getLsbD 3 k
    | trip => exact kind_getLsbD 4 k
    | reset => exact kind_getLsbD 5 k
  · cases n <;> rfl
  · cases n <;> rfl
  · cases n <;> rfl

theorem noticeSetOf_of_kinds {kinds : Byte} (known : kinds.toNat ≤ 63) : noticeSetOf kinds = some (kinds.setWidth 6) :=
  if_pos (Nat.lt_succ_of_le known)

theorem noticeSetOf_of_unknown {kinds : Byte} (unknown : 64 ≤ kinds.toNat) : noticeSetOf kinds = none := if_neg unknown.not_gt

/-- Settles O16: each row answers its claim, which reads or writes the issuer's notice state. -/
theorem noticeCommands : Obligations.NoticeCommands := by
  rintro s e executing n lastSlot withState
  refine ⟨fun command => ?_, fun kinds command known => ?_, fun kinds command unknown => ?_, fun kinds command known => ?_,
    fun kinds command unknown => ?_⟩
  · have slotByte : ∀ x : Option SlotIx, optionalSlotByte x = lastSlot x := fun x => by cases x <;> rfl
    have payload : noticesPayload n = [n.pending.setWidth 8, n.reported.setWidth 8, n.enable.setWidth 8, lastSlot n.lastExpired,
        lastSlot n.lastOverridden, lastSlot n.lastCommitted] := by
      rw [noticesPayload, slotByte, slotByte, slotByte]
    rw [← payload]
    exact answers_of_read executing (exec_readNotices executing command) rfl
  · refine next_of_accept executing (exec_setNoticeEnable executing kinds command) ?_ rfl
    rw [setNoticeEnableClaim, noticeSetOf_of_kinds known]
    rfl
  · exact answers_of_refuse executing (exec_setNoticeEnable executing kinds command)
      (by rw [setNoticeEnableClaim, noticeSetOf_of_unknown unknown])
  · refine next_of_accept executing (exec_clearNotices executing kinds command) ?_ rfl
    rw [clearNoticesClaim, noticeSetOf_of_kinds known]
    rfl
  · exact answers_of_refuse executing (exec_clearNotices executing kinds command) (by rw [clearNoticesClaim, noticeSetOf_of_unknown unknown])

end Sys2Proof.Machine
end

section
/-! SUPPORT. The frames of the Limit Link (R166 to R171): sums and check bytes, the payload of every command read back, the checks of R168 one by one, and
what a frame that ends leaves; with the statements. -/

namespace Sys2Proof

/-! ### Bytes and bits (R166) -/

theorem byteSum_append (a b : List Byte) : byteSum (a ++ b) = byteSum a + byteSum b := by
  induction a with
  | nil => exact (BitVec.zero_add _).symm
  | cons x a ih =>
    show x + byteSum (a ++ b) = x + byteSum a + byteSum b
    rw [ih, BitVec.add_assoc]

/-- The check byte makes the sum 0. -/
theorem byteSum_withCheck (bytes : List Byte) : byteSum (withCheck bytes) = 0 := by
  have single : byteSum [-(byteSum bytes)] = -(byteSum bytes) := BitVec.add_zero _
  rw [withCheck, byteSum_append, single]
  exact BitVec.add_right_neg _

theorem byteSum_toNat (bytes : List Byte) : (byteSum bytes).toNat = (bytes.map BitVec.toNat).sum % 256 := by
  induction bytes with
  | nil => rfl
  | cons b bytes ih =>
    show (b + byteSum bytes).toNat = _
    rw [BitVec.toNat_add, ih, List.map_cons, List.sum_cons]
    omega

theorem byteSum_eq_zero_iff (bytes : List Byte) : byteSum bytes = 0 ↔ (bytes.map BitVec.toNat).sum % 256 = 0 := by
  rw [← byteSum_toNat, ← BitVec.toNat_inj]
  rfl

/-- Each byte is sent most significant bit first. -/
theorem bitsOfBytes_getElem? (bytes : List Byte) (k : Nat) (bit : Fin 8) :
    (bitsOfBytes bytes)[8 * k + bit.val]? = bytes[k]?.map fun b => b.getMsbD bit.val := by
  have eight : ∀ b : Byte, (bitsOfByte b).length = 8 := fun _ => rfl
  induction bytes generalizing k with
  | nil => simp [bitsOfBytes]
  | cons b bytes ih =>
    have split : bitsOfBytes (b :: bytes) = bitsOfByte b ++ bitsOfBytes bytes := rfl
    rw [split]
    cases k with
    | zero =>
      rw [List.getElem?_append_left (by rw [eight]; omega)]
      revert bit
      simp [bitsOfByte, Fin.forall_fin_succ]
    | succ k =>
      rw [List.getElem?_append_right (by rw [eight]; omega), eight, show 8 * (k + 1) + bit.val - 8 = 8 * k + bit.val by omega]
      exact ih k

/-! ### Payloads read back (Table 10-2, Table 10-3) -/

/-- The bytes of a SET TRIP payload shift it in from its most significant end. -/
theorem packTrip_prefix (w : BitVec 128) {k : Nat} (within : k ≤ 16) :
    packTrip ((List.range k).map fun i => w.extractLsb' (120 - 8 * i) 8) = w >>> (128 - 8 * k) := by
  induction k with
  | zero =>
    refine BitVec.eq_of_getLsbD_eq fun i _ => ?_
    simp [packTrip]
  | succ k ih =>
    have before := ih (by omega)
    rw [packTrip] at before ⊢
    rw [List.range_succ, List.map_append, List.foldl_append, before]
    refine BitVec.eq_of_getLsbD_eq fun i hi => ?_
    simp only [List.map_cons, List.map_nil, List.foldl_cons, List.foldl_nil, BitVec.getLsbD_or, BitVec.getLsbD_shiftLeft,
      BitVec.getLsbD_ushiftRight, BitVec.getLsbD_setWidth, BitVec.getLsbD_extractLsb', hi, decide_true, Bool.true_and]
    by_cases low : i < 8
    · simp [low, show 128 - 8 * (k + 1) + i = 120 - 8 * k + i by omega]
    · simp [low, show 128 - 8 * (k + 1) + i = 128 - 8 * k + (i - 8) by omega]

theorem packTrip_unpackTrip (w : BitVec 128) : packTrip (unpackTrip w) = w :=
  (packTrip_prefix w le_rfl).trans (by simp)

theorem payloadBytes_length (c : Command) : (payloadBytes c).length = payloadLength (codeOf c) := by
  cases c with
  | setTrip w => simp [payloadBytes, unpackTrip, codeOf, payloadLength]
  | _ => rfl

theorem payloadLength_le (c : Code) : payloadLength c ≤ 16 := by cases c <;> decide

/-- The fields of every command are read back from its payload. -/
theorem parsePayload_payloadBytes (c : Command) : parsePayload (codeOf c) (payloadBytes c) = some c := by
  have halves : (fun w : Half => halfOfBytes (w.extractLsb' 8 8) (w.extractLsb' 0 8)) = id := funext halfOfBytes_bytes
  cases c with
  | place f => exact congrArg (fun half => some (Command.place { f with bound := half f.bound, lease := half f.lease })) halves
  | change f => exact congrArg (fun half => some (Command.change { f with bound := half f.bound })) halves
  | renew f => exact congrArg (fun half => some (Command.renew { f with lease := half f.lease })) halves
  | setGovern f =>
    exact congrArg (fun half => some (Command.setGovern
      { f with hysteresis := half f.hysteresis, riseHold := half f.riseHold, fallHold := half f.fallHold })) halves
  | setOutput f => exact congrArg (fun half => some (Command.setOutput { f with mask := half f.mask })) halves
  | setPosture f settle lease => exact congrArg (fun half => some (Command.setPosture f (half settle) (half lease))) halves
  | setTrip w =>
    have sixteen : (unpackTrip w).length = 16 := by simp [unpackTrip]
    show (if (unpackTrip w).length = 16 then some (Command.setTrip (packTrip (unpackTrip w))) else none) = some (.setTrip w)
    rw [if_pos sixteen, packTrip_unpackTrip]
  | _ => rfl

/-! ### The checks of R168 -/

theorem frameType_commandHeader (r : Requester) : frameType (commandHeader r) = .command := by
  revert r
  decide

theorem headerRequester_commandHeader (r : Requester) : headerRequester (commandHeader r) = r := by
  revert r
  decide

section
variable {header : Byte} {rest : List Byte}

theorem frameType_eq_command_iff : frameType header = .command ↔ 0xA0 ≤ header.toNat ∧ header.toNat ≤ 0xA7 := by
  unfold frameType
  split
  · next command => exact iff_of_true rfl command
  · next other =>
    refine iff_of_false ?_ other
    split <;> nofun

theorem frameType_eq_fetch_iff : frameType header = .fetch ↔ 0x50 ≤ header.toNat ∧ header.toNat ≤ 0x57 := by
  unfold frameType
  split
  · exact iff_of_false nofun (by omega)
  · split
    · next fetch => exact iff_of_true rfl fetch
    · next other => exact iff_of_false nofun other

theorem judgeFrame_not_command (other : ¬ (0xA0 ≤ header.toNat ∧ header.toNat ≤ 0xA7)) :
    judgeFrame header rest = .refuse (headerRequester header) .framing := if_pos (mt frameType_eq_command_iff.1 other)

theorem judgeFrame_short (short : rest.length < 3) : judgeFrame header rest = .refuse (headerRequester header) .framing := by
  unfold judgeFrame
  dsimp only
  split
  · rfl
  · split
    · next code length tail =>
      refine if_pos ?_
      simp only [List.length_cons] at short
      omega
    · rfl

variable {code length : Byte} {tail : List Byte}

theorem judgeFrame_count (wrong : tail.length ≠ length.toNat + 1) :
    judgeFrame header (code :: length :: tail) = .refuse (headerRequester header) .framing := by
  unfold judgeFrame
  dsimp only
  rw [if_pos wrong, ite_self]

theorem judgeFrame_whole (command : frameType header = .command) (count : tail.length = length.toNat + 1) :
    judgeFrame header (code :: length :: tail) = checkCommand (headerRequester header) header code length tail := by
  unfold judgeFrame
  dsimp only
  rw [if_neg (not_not_intro command), if_neg (not_not_intro count)]

variable {r : Requester}

theorem checkCommand_check (wrong : byteSum (header :: code :: length :: tail) ≠ 0) :
    checkCommand r header code length tail = .refuse r .check := if_pos wrong

section
variable (sum : byteSum (header :: code :: length :: tail) = 0)
include sum

theorem checkCommand_unknown (unknown : codeOfByte code = none) : checkCommand r header code length tail = .refuse r .unknown := by
  rw [checkCommand, if_neg (not_not_intro sum), unknown]

variable {c : Code} (known : codeOfByte code = some c)
include known

theorem checkCommand_malformed (wrong : length.toNat ≠ payloadLength c) : checkCommand r header code length tail = .refuse r .malformed := by
  rw [checkCommand, if_neg (not_not_intro sum), known]
  exact if_pos wrong

variable (count : length.toNat = payloadLength c)
include count

theorem checkCommand_denied (marked : privileged c = true) (agent : r ≠ 0) : checkCommand r header code length tail = .refuse r .denied := by
  rw [checkCommand, if_neg (not_not_intro sum), known]
  dsimp only
  rw [if_neg (not_not_intro count), if_pos ⟨marked, agent⟩]

theorem checkCommand_take (allowed : privileged c = true → r = 0) {cmd : Command} (parsed : parsePayload c (tail.take length.toNat) = some cmd) :
    checkCommand r header code length tail = .take r cmd := by
  have may : ¬ (privileged c = true ∧ r ≠ 0) := fun ⟨marked, agent⟩ => agent (allowed marked)
  rw [checkCommand, if_neg (not_not_intro sum), known]
  dsimp only
  rw [if_neg (not_not_intro count), if_neg may, parsed]

end

end

/-- A code byte of no command is unknown. -/
theorem codeOfByte_none {code : Byte} (unknown : ∀ c, codeByte c ≠ code) : codeOfByte code = none :=
  List.find?_eq_none.2 fun c _ same => unknown c (beq_iff_eq.1 same)

/-- The frame that carries a command passes every check. -/
theorem judgeFrame_commandFrame {r : Requester} {c : Command} (allowed : privileged (codeOf c) = true → r = 0) :
    ∃ header rest, commandFrameBytes r c = header :: rest ∧ frameType header = .command ∧ judgeFrame header rest = .take r c := by
  have count : (BitVec.ofNat 8 (payloadLength (codeOf c)) : Byte).toNat = payloadLength (codeOf c) := by
    rw [BitVec.toNat_ofNat]
    exact Nat.mod_eq_of_lt (lt_of_le_of_lt (payloadLength_le _) (by decide))
  have sum := byteSum_withCheck ([commandHeader r, codeByte (codeOf c), BitVec.ofNat 8 (payloadLength (codeOf c))] ++ payloadBytes c)
  refine ⟨commandHeader r, _, rfl, frameType_commandHeader r, ?_⟩
  show judgeFrame (commandHeader r) (codeByte (codeOf c) :: BitVec.ofNat 8 (payloadLength (codeOf c)) :: (payloadBytes c ++
    [-(byteSum ([commandHeader r, codeByte (codeOf c), BitVec.ofNat 8 (payloadLength (codeOf c))] ++ payloadBytes c))])) = _
  rw [judgeFrame_whole (frameType_commandHeader r) (by rw [count, List.length_append, payloadBytes_length]; rfl), headerRequester_commandHeader]
  refine checkCommand_take sum (codeOfByte_codeByte _) count allowed ?_
  rw [count, ← payloadBytes_length]
  exact (congrArg (parsePayload (codeOf c)) List.take_left).trans (parsePayload_payloadBytes c)

end Sys2Proof

namespace Sys2Proof.Machine

/-- Settles O13: the whole bytes of its bits are the frame's, which passes every check. -/
theorem commandFrameRoundTrip : Obligations.CommandFrameRoundTrip := by
  intro r c more allowed short
  obtain ⟨header, rest, bytes, -, judged⟩ := judgeFrame_commandFrame allowed
  exact ⟨header, rest, (wholeBytes_bitsOfBytes _ more short).trans bytes, judged⟩

/-! ### A frame that ends (R166, R168, R170, R171) -/

section
variable {s : State} {sdi : List Bool} {onOther : State → Byte → List Byte → State}

theorem endFrame_of_void (void : s.link.voidFrame = true) : endFrame s sdi onOther = sdoLow (s.withLink { s.link with voidFrame := false }) sdi :=
  if_pos void

variable (whole : s.link.voidFrame = false)
include whole

theorem endFrame_of_no_byte (none : wholeBytes sdi = []) : endFrame s sdi onOther = s := by
  rw [endFrame, if_neg (by rw [whole]; exact Bool.false_ne_true), none]

variable {header : Byte} {rest : List Byte} (bytes : wholeBytes sdi = header :: rest)
include bytes

theorem endFrame_of_fetch (fetch : frameType header = .fetch) : endFrame s sdi onOther = fetchFrame s header sdi.length := by
  rw [endFrame, if_neg (by rw [whole]; exact Bool.false_ne_true), bytes]
  exact if_pos fetch

variable (other : frameType header ≠ .fetch)
include other

theorem endFrame_of_executing {e : Execution} (executing : s.link.execution = some e) : endFrame s sdi onOther =
    { s with link := { s.link with execution := some { e with dropped := true }, sdo := List.replicate sdi.length false } } := by
  have busy : (sdoLow s sdi).link.execution = some e := executing
  rw [endFrame, if_neg (by rw [whole]; exact Bool.false_ne_true), bytes]
  dsimp only
  rw [if_neg other, busy, dropFrame, busy]
  rfl

theorem endFrame_of_idle (idle : s.link.execution = none) : endFrame s sdi onOther = onOther (sdoLow s sdi) header rest := by
  have free : (sdoLow s sdi).link.execution = none := idle
  rw [endFrame, if_neg (by rw [whole]; exact Bool.false_ne_true), bytes]
  dsimp only
  rw [if_neg other, free]
  rfl

end

/-- A refused frame answers the requester of its header (R168). -/
theorem takeFrame_refused {s : State} {header : Byte} {rest : List Byte} {r : Requester} {status : Status}
    (judged : judgeFrame header rest = .refuse r status) : takeFrame s header rest = responded s r false status [] := by
  rw [takeFrame, judged]
  rfl

/-- Settles O9: the frame passes every check, and its command is taken. -/
theorem commandFrameTaken : Obligations.CommandFrameTaken := by
  intro s r c sdi idle whole carries allowed
  obtain ⟨header, rest, bytes, command, judged⟩ := judgeFrame_commandFrame allowed
  have ends := endFrame_of_idle (onOther := takeFrame) whole (carries.trans bytes) (by rw [command]; nofun) idle
  rw [takeFrame, judged] at ends
  exact congrArg Host.Outcome.next ends

/-- Settles O10: each check of R168 that fails, in order, with its error response. -/
theorem commandFrameRefused : Obligations.CommandFrameRefused := by
  intro s header rest sdi idle whole bytes notFetch isCommand wrong sumIsZero
  have ends := endFrame_of_idle (onOther := takeFrame) whole bytes (mt frameType_eq_fetch_iff.1 notFetch) idle
  have refused : ∀ {status}, judgeFrame header rest = .refuse (headerRequester header) status → wrong status := fun judged =>
    congrArg Host.Outcome.next (ends.trans (takeFrame_refused judged))
  refine ⟨fun other => refused (judgeFrame_not_command other), fun short => refused (judgeFrame_short short), fun code n tail split => ?_⟩
  subst split
  refine ⟨fun count => refused (judgeFrame_count count), fun command count => ?_⟩
  have checked := judgeFrame_whole (code := code) (frameType_eq_command_iff.2 command) count
  have sum := byteSum_eq_zero_iff (header :: code :: n :: tail)
  refine ⟨fun odd => ?_, fun zero unknown => ?_, fun zero c same => ⟨fun length => ?_, fun length marked agent => ?_⟩⟩
  · exact refused (checked.trans (checkCommand_check (mt sum.1 odd)))
  · exact refused (checked.trans (checkCommand_unknown (sum.2 zero) (codeOfByte_none unknown)))
  · exact refused (checked.trans (checkCommand_malformed (sum.2 zero) (same ▸ codeOfByte_codeByte c) length))
  · exact refused (checked.trans (checkCommand_denied (sum.2 zero) (same ▸ codeOfByte_codeByte c) length marked agent))

/-- Settles O11: the three rows end the frame in the same way but where it is neither a FETCH frame nor meets an execution. -/
theorem frameMeetsExecution : Obligations.FrameMeetsExecution := by
  have rows : ∀ (s : State) (sdi : List Bool) (c : Instr), c = .commandFrame sdi ∨ c = .frameDuringExecution sdi ∨ c = .fetchFrame sdi →
      ∃ onOther, exec c s = .next (endFrame s sdi onOther) := by
    rintro s sdi c (rfl | rfl | rfl) <;> exact ⟨_, rfl⟩
  refine ⟨fun s sdi c void row => ?_, fun s sdi => rfl, fun s sdi whole => ⟨fun none c row => ?_, fun header rest bytes notFetch =>
    ⟨fun e c executing row => ?_, fun idle => ?_⟩⟩⟩
  · obtain ⟨onOther, ends⟩ := rows s sdi c row
    rw [ends, endFrame_of_void void]
    rfl
  · obtain ⟨onOther, ends⟩ := rows s sdi c row
    rw [ends, endFrame_of_no_byte whole none]
  · obtain ⟨onOther, ends⟩ := rows s sdi c row
    rw [ends, endFrame_of_executing whole bytes (mt frameType_eq_fetch_iff.1 notFetch) executing]
  · exact congrArg Host.Outcome.next (endFrame_of_idle whole bytes (mt frameType_eq_fetch_iff.1 notFetch) idle)

/-! ### A FETCH frame (R171) -/

/-- The bytes of a response are its header, its payload and the check byte (Table 10-4). -/
theorem responseBytes_eq (r : Response) : ∃ check : Byte, responseBytes r =
    [statusByte r.status, BitVec.ofNat 8 (r.priorUnread.toNat + 2 * r.dropped.toNat), BitVec.ofNat 8 r.requester.val,
      BitVec.ofNat 8 r.notices.toNat, BitVec.ofNat 8 r.payload.length] ++ r.payload ++ [check] := by
  have flags : byteOfFlags [r.priorUnread, r.dropped] = BitVec.ofNat 8 (r.priorUnread.toNat + 2 * r.dropped.toNat) := by
    simp [byteOfFlags, byteOf]
  have notices : r.notices.setWidth 8 = BitVec.ofNat 8 r.notices.toNat := BitVec.eq_of_toNat_eq (by simp)
  exact ⟨_, by rw [responseBytes, withCheck, flags, notices]; rfl⟩

/-- Settles O12: the answer by the Link Port's state, its bytes by the table, and its bits by their bytes. -/
theorem fetchFrameAnswers : Obligations.FetchFrameAnswers := by
  refine ⟨fun s header rest sdi c whole bytes low high row => ?_, fun r => ?_, bitsOfBytes_getElem?⟩
  · intro shifted bare
    have fetches : exec c s = .next (fetchFrame s header sdi.length) := by
      have ends : ∀ onOther, endFrame s sdi onOther = fetchFrame s header sdi.length := fun _ =>
        endFrame_of_fetch whole bytes (frameType_eq_fetch_iff.2 ⟨low, high⟩)
      rcases row with rfl | rfl | rfl <;> exact congrArg Host.Outcome.next (ends _)
    have answers : ∀ slot response, fetchedSlot s.link sdi.length = slot → fetchAnswer s.link (headerRequester header) = response →
        exec c s = .next { s with link := { s.link with slot := slot, sdo := shifted response } } := by
      rintro _ _ rfl rfl
      exact fetches
    refine ⟨fun executing => ?_, fun idle empty => ?_, fun held idle full whole => ?_, fun held idle full cut => ?_⟩
    · obtain ⟨e, executing⟩ := Option.isSome_iff_exists.1 executing
      exact answers s.link.slot (bare .notReady) (by rw [fetchedSlot, executing]) (by rw [fetchAnswer, executing]; rfl)
    · have kept := answers none (bare .empty) (by rw [fetchedSlot, idle, empty]) (by rw [fetchAnswer, idle, empty]; rfl)
      rw [← empty] at kept
      exact kept
    · refine answers _ held.response ?_ (by rw [fetchAnswer, idle, full])
      rw [fetchedSlot, idle, full]
      exact if_pos whole
    · have kept := answers (some held) held.response (by rw [fetchedSlot, idle, full]; exact if_neg cut.not_ge) (by rw [fetchAnswer, idle, full])
      rw [← full] at kept
      exact kept
  · obtain ⟨check, laid⟩ := responseBytes_eq r
    refine ⟨check, laid.trans ?_, (byteSum_eq_zero_iff _).1 (byteSum_withCheck _)⟩
    cases r.status <;> rfl

end Sys2Proof.Machine
end

section
/-! SUPPORT. The bytes of the responses as numbers (Tables 10-6 to 10-9), and the commands that read: LOOKUP, READ SLOT and LIST, and the reads of the
blocks; with the statements. -/

namespace Sys2Proof.Machine

/-! ### Numbers as bytes (R177) -/

/-- A number in two bytes, most significant first. -/
def twoBytes (n : Nat) : List Byte := [BitVec.ofNat 8 (n / 2 ^ 8), BitVec.ofNat 8 n]

/-- A number in four bytes, most significant first. -/
def fourBytes (n : Nat) : List Byte :=
  [BitVec.ofNat 8 (n / 2 ^ 24), BitVec.ofNat 8 (n / 2 ^ 16), BitVec.ofNat 8 (n / 2 ^ 8), BitVec.ofNat 8 n]

/-- The number of a set of flags, bit 0 first. -/
def flagsValue (flags : List Bool) : Nat := (flags.zipIdx.map fun p => p.1.toNat * 2 ^ p.2).sum

theorem twoBytes_zero : twoBytes 0 = [0, 0] := by decide

theorem extractByte_eq {w : Nat} (x : BitVec w) (start : Nat) : x.extractLsb' start 8 = BitVec.ofNat 8 (x.toNat / 2 ^ start) := by
  refine BitVec.eq_of_toNat_eq ?_
  rw [BitVec.extractLsb'_toNat, BitVec.toNat_ofNat, Nat.shiftRight_eq_div_pow]

theorem bytesOfHalf_eq (h : Half) : bytesOfHalf h = twoBytes h.toNat := by
  rw [bytesOfHalf, extractByte_eq, extractByte_eq, pow_zero, Nat.div_one, twoBytes]

theorem bytesOfCount_eq (c : Count) : bytesOfCount c = fourBytes c.toNat := by
  rw [bytesOfCount, extractByte_eq, extractByte_eq, extractByte_eq, extractByte_eq, pow_zero, Nat.div_one, fourBytes]

/-- The two low bytes of a number. -/
theorem bytesOfHalf_halfOf (n : Nat) : bytesOfHalf (halfOf n) = twoBytes n := by
  have high : n % 2 ^ 16 / 2 ^ 8 % 2 ^ 8 = n / 2 ^ 8 % 2 ^ 8 := by omega
  have low : n % 2 ^ 16 % 2 ^ 8 = n % 2 ^ 8 := by omega
  have byteEq : ∀ a b : Nat, a % 2 ^ 8 = b % 2 ^ 8 → (BitVec.ofNat 8 a : Byte) = BitVec.ofNat 8 b := fun a b same =>
    BitVec.eq_of_toNat_eq (by rw [BitVec.toNat_ofNat, BitVec.toNat_ofNat, same])
  rw [bytesOfHalf_eq, halfOf, BitVec.toNat_ofNat]
  exact congrArg₂ (fun h l => [h, l]) (byteEq _ _ high) (byteEq _ _ low)

/-- A narrower word in two bytes. -/
theorem bytesOfHalf_setWidth {w : Nat} (narrow : w ≤ 16) (x : BitVec w) : bytesOfHalf (x.setWidth 16) = twoBytes x.toNat := by
  rw [bytesOfHalf_eq, BitVec.toNat_setWidth_of_le narrow]

/-! ### Flags (R177) -/

theorem flagsValue_cons (b : Bool) (flags : List Bool) : flagsValue (b :: flags) = b.toNat + 2 * flagsValue flags := by
  have shifted : ∀ (l : List Bool) (k : Nat), ((l.zipIdx (k + 1)).map fun p => p.1.toNat * 2 ^ p.2).sum
      = 2 * ((l.zipIdx k).map fun p => p.1.toNat * 2 ^ p.2).sum := by
    intro l
    induction l with
    | nil => exact fun _ => rfl
    | cons c l ih =>
      intro k
      rw [List.zipIdx_cons, List.zipIdx_cons, List.map_cons, List.map_cons, List.sum_cons, List.sum_cons, ih, pow_succ]
      ring
  rw [flagsValue, List.zipIdx_cons, List.map_cons, List.sum_cons, shifted, pow_zero, mul_one, flagsValue]

theorem byteOfFlags_eq (flags : List Bool) : byteOfFlags flags = BitVec.ofNat 8 (flagsValue flags) := by
  refine congrArg byteOf ?_
  induction flags with
  | nil => rfl
  | cons b flags ih => rw [List.foldr_cons, ih, flagsValue_cons]

theorem flagsValue_testBit (flags : List Bool) (i : Nat) : (flagsValue flags).testBit i = flags[i]?.getD false := by
  induction flags generalizing i with
  | nil => simp [flagsValue]
  | cons b flags ih =>
    rw [flagsValue_cons, add_comm, ← Nat.bit_val]
    cases i with
    | zero => exact Nat.testBit_bit_zero b _
    | succ i => exact (Nat.testBit_bit_succ i b _).trans (ih i)

/-- The number of the set of those that pass a test. -/
theorem bitsWhere_toNat {n : Nat} (test : Fin n → Bool) : (bitsWhere test).toNat = flagsValue ((List.finRange n).map test) := by
  refine Nat.eq_of_testBit_eq fun i => ?_
  rw [flagsValue_testBit, BitVec.testBit_toNat, List.getElem?_map]
  by_cases within : i < n
  · rw [bitsWhere_getLsbD test ⟨i, within⟩]
    simp [within]
  · rw [BitVec.getLsbD_of_ge _ _ (by omega)]
    simp [within]

/-- The set of the members of a vector that pass a test, in two bytes. -/
theorem bytesOfHalf_bitsWhere {α : Type} (v : Vector α 9) (test : α → Bool) :
    bytesOfHalf ((bitsWhere fun i : Fin 9 => test v[i]).setWidth 16) = twoBytes (flagsValue (v.toList.map test)) := by
  have members : (List.finRange 9).map (fun i => test v[i]) = v.toList.map test :=
    List.ext_getElem (by simp) fun i _ _ => by simp
  rw [bytesOfHalf_setWidth (by decide), bitsWhere_toNat, members]

/-! ### Answers that read -/

section
variable {s : State} {e : Execution} (executing : s.link.execution = some e) {i : Instr}
include executing

/-- A read that answers from the state as it is, by the bytes its payload comes to. -/
theorem answers_of_payload {status : Status} {payload bytes : List Byte} (row : exec i s = answer (s, ⟨status, payload⟩)) (bytesAre : payload = bytes) :
    Answers i s e status bytes :=
  answers_of_read executing row (congrArg (fun x => (s, Reply.mk status x)) bytesAre)

end

/-! ### Images of the slots (R46 to R48, Table 10-6) -/

theorem imageBytes_some (p : Posture) (i : SlotIx) (r : Record) : imageBytes p i (some r) =
    [BitVec.ofNat 8 i.val, (match r.state with | .live => 1 | .retiring => 2), BitVec.ofNat 8 r.owner.val, BitVec.ofNat 8 r.subject.val, r.tag,
      BitVec.ofNat 8 ((match r.cls with | .ordinary => 0 | .anchored => 1) + 2 * r.pendingBound.isSome.toNat + 4 * r.pendingMask.isSome.toNat
        + 8 * r.lease.isSome.toNat + 16 * (r.mask.getLsbD (match p with | .desk => 0 | .lap => 1 | .bag => 2)).toNat)]
    ++ twoBytes r.bound.toNat ++ twoBytes (match r.pendingBound with | none => 0 | some b => b.toNat)
    ++ [BitVec.ofNat 8 (r.mask.toNat + 16 * (match r.pendingMask with | none => 0 | some x => x.toNat))]
    ++ twoBytes (match r.lease with | none => 0 | some n => n) ++ [r.generation] := by
  have flags : byteOfFlags [r.cls == .anchored, r.pendingBound.isSome, r.pendingMask.isSome, r.lease.isSome, applies p r]
      = BitVec.ofNat 8 ((match r.cls with | .ordinary => 0 | .anchored => 1) + 2 * r.pendingBound.isSome.toNat + 4 * r.pendingMask.isSome.toNat
        + 8 * r.lease.isSome.toNat + 16 * (r.mask.getLsbD (match p with | .desk => 0 | .lap => 1 | .bag => 2)).toNat) := by
    have cls : (r.cls == .anchored).toNat = (match r.cls with | .ordinary => 0 | .anchored => 1) := by cases r.cls <;> rfl
    have posture : postureIndex p = (match p with | .desk => 0 | .lap => 1 | .bag => 2) := by cases p <;> rfl
    refine congrArg byteOf ?_
    rw [← cls, ← posture]
    simp only [List.foldr, applies, inMask]
    ring
  have state : recordStateByte r.state = (match r.state with | .live => 1 | .retiring => 2) := by cases r.state <;> rfl
  have pendingBound : (r.pendingBound.getD 0).toNat = (match r.pendingBound with | none => 0 | some b => b.toNat) := by
    cases r.pendingBound <;> rfl
  have pendingMask : (r.pendingMask.getD 0).toNat = (match r.pendingMask with | none => 0 | some x => x.toNat) := by
    cases r.pendingMask <;> rfl
  have lease : r.lease.getD 0 = (match r.lease with | none => 0 | some n => n) := by cases r.lease <;> rfl
  rw [imageBytes, flags, state, bytesOfHalf_eq, bytesOfHalf_eq, bytesOfHalf_halfOf, pendingBound, pendingMask, lease]
  rfl

/-- The non-FREE slots from a starting slot upward are the only ascending list of them. -/
theorem occupiedFrom_eq {t : Table} {start : SlotIx} {slots : List SlotIx} (ascending : slots.Pairwise (· < ·))
    (members : ∀ i : SlotIx, i ∈ slots ↔ start ≤ i ∧ t[i] ≠ none) : occupiedFrom t start = slots := by
  refine List.Pairwise.eq_of_mem_iff (r := (· < ·)) ((List.sortedLT_finRange 48).pairwise.filter _) ascending fun i => ?_
  rw [members, occupiedFrom, List.mem_filter, Bool.and_eq_true, decide_eq_true_iff, Option.isSome_iff_ne_none]
  exact and_iff_right (List.mem_finRange i)

/-- The payload of LIST where the first three, or all there are, are told apart from the others. -/
theorem listPayload_eq {s : State} {start : SlotIx} {found more : List SlotIx} (occupied : occupiedFrom s.table start = found ++ more)
    (most : found.length = 3 ∨ (found.length < 3 ∧ more = [])) :
    listPayload s start = [byteOf found.length, optionalSlotByte more.head?] ++ found.flatMap (image s) := by
  have split : (found ++ more).take 3 = found ∧ (found ++ more)[3]? = more.head? := by
    rcases most with three | ⟨fewer, rfl⟩
    · exact ⟨List.take_left' three, by rw [List.getElem?_append_right three.le, three, List.head?_eq_getElem?]⟩
    · rw [List.append_nil]
      exact ⟨List.take_of_length_le fewer.le, List.getElem?_eq_none fewer.le⟩
  obtain ⟨firstThree, fourth⟩ := split
  rw [listPayload, occupied, firstThree, fourth]

/-- Settles O27: each read is answered from the table as it stands, and its images are the bytes of Table 10-6. -/
theorem tableReads : Obligations.TableReads := by
  intro s e executing byte two image
  have images : ∀ i, Machine.image s i = image i := fun i => by
    show imageBytes s.posture.current i s.table[i] = image i
    simp only [image]
    cases s.table[i] with
    | none => rfl
    | some r => exact imageBytes_some _ i r
  refine ⟨fun k i r command holds => ?_, fun k command inRange free => ?_, fun slot i command is => ?_, fun start first found more command is ascending members most => ?_⟩
  · obtain ⟨key, reads⟩ := keyOf_isSome (holdsKey_inRange holds)
    exact answers_of_read executing (exec_lookup executing k command) (by rw [lookupClaim, reads]; dsimp only; rw [findKey_holds reads holds, ← images])
  · obtain ⟨key, reads⟩ := keyOf_isSome inRange
    exact answers_of_refuse executing (exec_lookup executing k command) (by rw [lookupClaim, reads]; dsimp only; rw [findKey_noRecord reads free])
  · exact answers_of_read executing (exec_readSlot executing slot command) (by rw [readSlotClaim, below_eq.2 is, ← images])
  · refine answers_of_read executing (exec_list executing start command) ?_
    rw [listClaim, below_eq.2 is]
    dsimp only
    rw [listPayload_eq (occupiedFrom_eq ascending members) most, funext images]
    cases more.head? <;> rfl

/-! ### Reads of the blocks (R85, R100, R117, R134, R163, R176) -/

theorem entryBytes_eq (sub : Subject) (x : Entry) : entryBytes sub x =
    [BitVec.ofNat 8 sub.val, BitVec.ofNat 8 (flagsValue [x.limit.isSome, x.winner.isSome])]
      ++ twoBytes (match x.limit with | none => 0 | some l => l.toNat)
      ++ [BitVec.ofNat 8 (match x.winner with | none => 0 | some i => i.val), BitVec.ofNat 8 x.count] := by
  rw [entryBytes, byteOfFlags_eq, bytesOfHalf_eq]
  cases x.limit <;> cases x.winner <;> rfl

theorem outputBytes_eq (o : Output) : outputBytes o =
    [o.period, (match o.staged with | none => 0 | some x => x),
      BitVec.ofNat 8 (flagsValue [o.staged.isSome, o.cutoff == .full, o.restart == .manual]
        + 8 * (match o.state with | .tracking => 0 | .forced => 1 | .releasing => 2))]
      ++ twoBytes o.mask.toNat ++ [BitVec.ofNat 8 o.applied.val] := by
  have flags : (if o.staged.isSome then 1 else 0) + (if o.cutoff = .full then 2 else 0) + (if o.restart = .manual then 4 else 0)
      = flagsValue [o.staged.isSome, o.cutoff == .full, o.restart == .manual] := by
    cases o.staged.isSome <;> cases o.cutoff <;> cases o.restart <;> rfl
  have state : outputStateNumber o.state = (match o.state with | .tracking => 0 | .forced => 1 | .releasing => 2) := by cases o.state <;> rfl
  have staged : o.staged.getD 0 = (match o.staged with | none => 0 | some x => x) := by cases o.staged <;> rfl
  rw [outputBytes, bytesOfHalf_setWidth (by decide), flags, state, staged]
  rfl

theorem settleBytes_eq (now : Count) (settle : Option Settle) : settleByte settle :: settleTimes now settle =
    (match settle with
      | none => [0, 0, 0, 0, 0]
      | some x => BitVec.ofNat 8 (1 + 2 * postureIndex x.candidate + (match x.kind with | .strict => 0 | .loose => 8)
          + (match x.due with | none => 16 | some _ => 32))
        :: (twoBytes x.duration.toNat ++ twoBytes (match x.due with | none => 0 | some due => (due - now).toNat))) := by
  cases settle with
  | none => rfl
  | some x =>
    obtain ⟨candidate, kind, duration, due⟩ := x
    rw [settleTimes, bytesOfHalf_eq]
    cases due with
    | none =>
      dsimp only
      rw [twoBytes_zero]
      cases kind <;> rfl
    | some due =>
      dsimp only
      rw [bytesOfHalf_halfOf]
      cases kind <;> rfl

theorem captureBytes_eq (c : Option Count) : bytesOfCount (c.getD 0) = (match c with | none => [0, 0, 0, 0] | some count => fourBytes count.toNat) := by
  cases c with
  | none => rfl
  | some count => exact bytesOfCount_eq count

theorem latestBytes_eq (c : Option (BitVec 10)) :
    bytesOfHalf ((c.getD 0).setWidth 16) = twoBytes (match c with | none => 0 | some code => code.toNat) := by
  cases c with
  | none => exact bytesOfHalf_setWidth (by decide) 0
  | some code => exact bytesOfHalf_setWidth (by decide) code

theorem filterBytes_eq (f : Option Nat) : bytesOfHalf (halfOf (reported (f.getD 0))) = twoBytes (match f with | none => 0 | some f => f / 256) := by
  cases f with
  | none => exact bytesOfHalf_halfOf 0
  | some f => exact bytesOfHalf_halfOf (f / 256)

theorem commitTimerByte_eq (t : CommitTimer) :
    commitTimerByte t = BitVec.ofNat 8 (t.exponent.val + (match t.staged with | none => 0 | some n => 8 + 16 * n.val)) := by
  rw [commitTimerByte]
  cases t.staged <;> rfl

theorem measureSettingsBytes_eq (m : Measurement) : measureSettingsBytes m =
    [BitVec.ofNat 8 (match m.scan.period with | .us500 => 1 | .us1000 => 2 | .us2000 => 4 | .us4000 => 8),
      BitVec.ofNat 8 (match m.scan.staged with
        | none => 0
        | some period => 128 + (match period with | .us500 => 1 | .us1000 => 2 | .us2000 => 4 | .us4000 => 8))]
      ++ (List.finRange 9).flatMap fun i => [m.gains[i], BitVec.ofNat 8 m.shifts[i].val] := by
  have units : scanUnits m.scan.period = BitVec.ofNat 8 (match m.scan.period with | .us500 => 1 | .us1000 => 2 | .us2000 => 4 | .us4000 => 8) := by
    cases m.scan.period <;> rfl
  refine congrArg₂ (fun a b => [a, b] ++ _) units ?_
  cases m.scan.staged with
  | none => rfl
  | some period => cases period <;> rfl

theorem governedBytes_eq (g : Governor) (i : Measured) : governedBytes g i =
    twoBytes g.subjects[i].hysteresis.toNat ++ twoBytes g.subjects[i].riseHold.toNat ++ twoBytes g.subjects[i].fallHold.toNat
      ++ [g.subjects[i].saturationTime]
      ++ g.routes[i].toList.map fun r => match r with | none => 0xFF | some offset => BitVec.ofNat 8 offset.val := by
  have route : ∀ r : Option Level, routeByte r = (match r with | none => 0xFF | some offset => BitVec.ofNat 8 offset.val) := fun r => by
    cases r <;> rfl
  rw [governedBytes, bytesOfHalf_eq, bytesOfHalf_eq, bytesOfHalf_eq, funext route]

theorem tripSettingsBytes_eq (t : TripUnit) : tripSettingsBytes t =
    twoBytes t.enable.toNat ++ twoBytes t.stopClass.toNat ++ t.levels.toList.flatMap (fun l => twoBytes l.toNat) ++ [t.stopTimeout] := by
  have level : ∀ l : BitVec 10, bytesOfHalf (l.setWidth 16) = twoBytes l.toNat := bytesOfHalf_setWidth (by decide)
  rw [tripSettingsBytes, bytesOfHalf_setWidth (by decide), bytesOfHalf_setWidth (by decide), funext level]

/-- The settings of a block at index 0. -/
theorem settingsPayload_zero (s : State) {block : Byte} (other : block ≠ 3) : settingsPayload s block 0 =
    if block = 0 then some (s.commitTimers.toList.map commitTimerByte)
    else if block = 1 then some (bytesOfHalf s.posture.strictTime ++ bytesOfHalf s.posture.looseTime)
    else if block = 2 then some (measureSettingsBytes s.measure)
    else if block = 4 then some (s.outputs.toList.flatMap outputBytes)
    else if block = 5 then some (tripSettingsBytes s.trip)
    else none := by
  rw [settingsPayload, if_neg other, if_neg (not_not_intro rfl)]

theorem settingsPayload_wide (s : State) {block index : Byte} (wide : 6 ≤ block.toNat) : settingsPayload s block index = none := by
  have apart : ∀ b : Byte, b.toNat < 6 → block ≠ b := fun b small is => by
    rw [is] at wide
    omega
  rw [settingsPayload, if_neg (apart 3 (by decide))]
  split
  · rfl
  · rw [if_neg (apart 0 (by decide)), if_neg (apart 1 (by decide)), if_neg (apart 2 (by decide)), if_neg (apart 4 (by decide)),
      if_neg (apart 5 (by decide))]

section
variable {s : State} {e : Execution} (executing : s.link.execution = some e) {block index : Byte}
  (command : e.command = .readSettings block index)
include executing command

theorem readSettings_answers {payload bytes : List Byte} (settings : settingsPayload s block index = some payload) (bytesAre : payload = bytes) :
    Answers .readSettings s e .ok bytes := by
  refine answers_of_read executing (exec_readSettings executing block index command) ?_
  rw [readSettingsClaim, settings, bytesAre]

theorem readSettings_refused (settings : settingsPayload s block index = none) : Answers .readSettings s e .range [] :=
  answers_of_refuse executing (exec_readSettings executing block index command) (by rw [readSettingsClaim, settings])

end

section
variable {s : State} {e : Execution} (executing : s.link.execution = some e) {subject : Byte} (command : e.command = .readResolved subject)
include executing command

theorem readResolved_answers {selector : Option Subject} {bytes : List Byte} (reads : selectorOf subject = some selector)
    (bytesAre : resolvedPayload s.resolver selector = bytes) : Answers .readResolved s e .ok bytes := by
  refine answers_of_read executing (exec_readResolved executing subject command) ?_
  rw [readResolvedClaim, reads]
  exact congrArg (fun x => (s, Reply.mk .ok x)) bytesAre

theorem readResolved_refused (reads : selectorOf subject = none) : Answers .readResolved s e .range [] :=
  answers_of_refuse executing (exec_readResolved executing subject command) (by rw [readResolvedClaim, reads])

end

/-- Settles O17: each payload of the blocks is, field by field, the bytes of Tables 10-7 to 10-9. -/
theorem blockReads : Obligations.BlockReads := by
  intro s e executing byte two four setOf code units entry p m g u
  have codes : ∀ q, postureIndex q = code q := fun q => by cases q <;> rfl
  have entries : ∀ sub, entryBytes sub s.resolver[sub] = entry sub := fun sub => entryBytes_eq sub _
  refine ⟨fun command => ?_, fun command => ?_, fun command => ?_, fun command => ?_, fun command => ?_, fun subject command => ?_,
    fun block index command => ?_⟩
  · exact answers_of_payload executing (exec_readProfile executing command) rfl
  · refine answers_of_payload executing (exec_readPosture executing command) ?_
    rw [posturePayload, byteOfFlags_eq, byteOfFlags_eq]
    refine congrArg₂ (· ++ ·) (congrArg₂ (· ++ ·) (congrArg₂ (· ++ ·) ?_ rfl) ?_) ?_
    · show postureByte _ :: postureByte _ :: (settleByte s.posture.settle :: settleTimes _ s.posture.settle) = _
      rw [settleBytes_eq, postureByte, postureByte, funext codes]
      cases s.posture.settle <;> rfl
    · exact congrArg (List.flatMap · _) (funext captureBytes_eq)
    · cases s.posture.lastChange with
      | none => rfl
      | some change => exact congrArg₂ (· ++ ·) (bytesOfCount_eq _) (congrArg (fun n => [byteOf n]) (codes _))
  · refine answers_of_payload executing (exec_readMeasure executing command) ?_
    rw [measurePayload, bytesOfHalf_bitsWhere, bytesOfHalf_bitsWhere, funext latestBytes_eq, funext filterBytes_eq]
    rfl
  · refine answers_of_payload executing (exec_readGovernor executing command) ?_
    rw [governorPayload, saturatedSet, bytesOfHalf_bitsWhere]
    rfl
  · refine answers_of_payload executing (exec_readTrip executing command) ?_
    rw [tripPayload, bytesOfHalf_setWidth (by decide), bytesOfHalf_setWidth (by decide), bytesOfHalf_setWidth (by decide)]
    cases s.trip.capture with
    | none => cases s.trip.state <;> rfl
    | some capture =>
      dsimp only
      rw [bytesOfCount_eq]
      cases s.trip.state <;> rfl
  · refine ⟨fun sub is other => ?_, fun fan => ?_, fun all => ?_, fun wide notAll => ?_⟩
    · refine readResolved_answers executing command (selectorOf_names (.inr ⟨sub, rfl, is⟩)) ?_
      rw [resolvedPayload, if_neg (show sub ≠ fanCapSubject from other), List.append_nil, entries]
    · refine readResolved_answers executing command (selectorOf_names (.inr ⟨9, rfl, by rw [fan]; rfl⟩)) ?_
      rw [resolvedPayload, if_pos (show (9 : Subject) = fanCapSubject from rfl), entries]
      rfl
    · refine readResolved_answers executing command (selectorOf_names (.inl ⟨rfl, all⟩)) ?_
      rw [resolvedPayload, funext entries]
      rfl
    · refine readResolved_refused executing command ?_
      rw [selectorOf, if_neg notAll, below_eq_none.2 wide]
      rfl
  · refine ⟨fun b i => ?_, fun b i => ?_, fun b i => ?_, fun b i is => ?_, fun b i => ?_, fun b i => ?_, fun b wide => ?_, fun b i => ?_, fun wide => ?_⟩
    · subst b i
      exact readSettings_answers executing command (settingsPayload_zero s (by decide)) (congrArg (List.map · _) (funext commitTimerByte_eq))
    · subst b i
      exact readSettings_answers executing command (settingsPayload_zero s (by decide))
        (congrArg₂ (· ++ ·) (bytesOfHalf_eq _) (bytesOfHalf_eq _))
    · subst b i
      exact readSettings_answers executing command (settingsPayload_zero s (by decide)) (measureSettingsBytes_eq _)
    · subst b
      exact readSettings_answers executing command (congrArg (Option.map _) (below_eq.2 is)) (governedBytes_eq _ _)
    · subst b i
      exact readSettings_answers executing command (settingsPayload_zero s (by decide)) (congrArg (List.flatMap · _) (funext outputBytes_eq))
    · subst b i
      exact readSettings_answers executing command (settingsPayload_zero s (by decide)) (tripSettingsBytes_eq _)
    · subst b
      exact readSettings_refused executing command (congrArg (Option.map _) (below_eq_none.2 wide))
    · exact readSettings_refused executing command (by rw [settingsPayload, if_neg b, if_pos i])
    · exact readSettings_refused executing command (settingsPayload_wide s wide)

end Sys2Proof.Machine
end
